-- ==== Sys2Proof/Word.lean ====
section
/-! DEFINITION. The two word types of the core (R7): a `u8` and a `u16`. -/

namespace Sys2Proof

/-- A `u8`: an 8-bit register, a memory byte (R7, R9). -/
abbrev Byte := BitVec 8

/-- A `u16`: an address, a register pair, PC, SP, IX, IY (R7, R9). -/
abbrev Word := BitVec 16

end Sys2Proof
end

