-- ==== Sys2Proof/Syntax.lean ====
section
/-! DEFINITION. The instructions: one constructor per row of spec/opcode_table.json, in opcode order (R72-R75). An
immediate byte `n` and word `nn` are taken as they stand (R76, R77); a displacement `d` is the signed integer that
the displacement byte encodes (R78), in -128..127 when the instruction is well formed. -/

namespace Sys2Proof

/-- The instructions of the core. The docstring of a constructor gives the mnemonic, the opcode and the rule. -/
inductive Instr where
  /-- `NOP`, 0x00, R210. -/
  | nop
  /-- `LD BC,nn`, 0x01, R150. -/
  | ldBcNn (nn : Word)
  /-- `LD (BC),A`, 0x02, R151. -/
  | ldMemBcA
  /-- `INC BC`, 0x03, R170. -/
  | incBc
  /-- `INC B`, 0x04, R180. -/
  | incB
  /-- `DEC B`, 0x05, R182. -/
  | decB
  /-- `LD B,n`, 0x06, R155. -/
  | ldBN (n : Byte)
  /-- `RLCA`, 0x07, R200. -/
  | rlca
  /-- `EX AF,AF'`, 0x08, R164. -/
  | exAfAf
  /-- `ADD HL,BC`, 0x09, R172. -/
  | addHlBc
  /-- `LD A,(BC)`, 0x0A, R153. -/
  | ldAMemBc
  /-- `DEC BC`, 0x0B, R171. -/
  | decBc
  /-- `INC C`, 0x0C, R180. -/
  | incC
  /-- `DEC C`, 0x0D, R182. -/
  | decC
  /-- `LD C,n`, 0x0E, R155. -/
  | ldCN (n : Byte)
  /-- `RRCA`, 0x0F, R201. -/
  | rrca
  /-- `DJNZ d`, 0x10, R212. -/
  | djnz (d : Int)
  /-- `LD DE,nn`, 0x11, R150. -/
  | ldDeNn (nn : Word)
  /-- `LD (DE),A`, 0x12, R152. -/
  | ldMemDeA
  /-- `INC DE`, 0x13, R170. -/
  | incDe
  /-- `INC D`, 0x14, R180. -/
  | incD
  /-- `DEC D`, 0x15, R182. -/
  | decD
  /-- `LD D,n`, 0x16, R155. -/
  | ldDN (n : Byte)
  /-- `RLA`, 0x17, R202. -/
  | rla
  /-- `JR d`, 0x18, R213. -/
  | jr (d : Int)
  /-- `ADD HL,DE`, 0x19, R172. -/
  | addHlDe
  /-- `LD A,(DE)`, 0x1A, R154. -/
  | ldAMemDe
  /-- `DEC DE`, 0x1B, R171. -/
  | decDe
  /-- `INC E`, 0x1C, R180. -/
  | incE
  /-- `DEC E`, 0x1D, R182. -/
  | decE
  /-- `LD E,n`, 0x1E, R155. -/
  | ldEN (n : Byte)
  /-- `RRA`, 0x1F, R203. -/
  | rra
  /-- `JR NZ,d`, 0x20, R214. -/
  | jrNz (d : Int)
  /-- `LD HL,nn`, 0x21, R150. -/
  | ldHlNn (nn : Word)
  /-- `LD (nn),HL`, 0x22, R160. -/
  | ldMemNnHl (nn : Word)
  /-- `INC HL`, 0x23, R170. -/
  | incHl
  /-- `INC H`, 0x24, R180. -/
  | incH
  /-- `DEC H`, 0x25, R182. -/
  | decH
  /-- `LD H,n`, 0x26, R155. -/
  | ldHN (n : Byte)
  /-- `DAA`, 0x27, R204. -/
  | daa
  /-- `JR Z,d`, 0x28, R214. -/
  | jrZ (d : Int)
  /-- `ADD HL,HL`, 0x29, R172. -/
  | addHlHl
  /-- `LD HL,(nn)`, 0x2A, R161. -/
  | ldHlMemNn (nn : Word)
  /-- `DEC HL`, 0x2B, R171. -/
  | decHl
  /-- `INC L`, 0x2C, R180. -/
  | incL
  /-- `DEC L`, 0x2D, R182. -/
  | decL
  /-- `LD L,n`, 0x2E, R155. -/
  | ldLN (n : Byte)
  /-- `CPL`, 0x2F, R205. -/
  | cpl
  /-- `JR NC,d`, 0x30, R214. -/
  | jrNc (d : Int)
  /-- `LD SP,nn`, 0x31, R150. -/
  | ldSpNn (nn : Word)
  /-- `LD (nn),A`, 0x32, R162. -/
  | ldMemNnA (nn : Word)
  /-- `INC SP`, 0x33, R170. -/
  | incSp
  /-- `INC (HL)`, 0x34, R181. -/
  | incMemHl
  /-- `DEC (HL)`, 0x35, R183. -/
  | decMemHl
  /-- `LD (HL),n`, 0x36, R156. -/
  | ldMemHlN (n : Byte)
  /-- `SCF`, 0x37, R206. -/
  | scf
  /-- `JR C,d`, 0x38, R214. -/
  | jrC (d : Int)
  /-- `ADD HL,SP`, 0x39, R172. -/
  | addHlSp
  /-- `LD A,(nn)`, 0x3A, R163. -/
  | ldAMemNn (nn : Word)
  /-- `DEC SP`, 0x3B, R171. -/
  | decSp
  /-- `INC A`, 0x3C, R180. -/
  | incA
  /-- `DEC A`, 0x3D, R182. -/
  | decA
  /-- `LD A,n`, 0x3E, R155. -/
  | ldAN (n : Byte)
  /-- `CCF`, 0x3F, R207. -/
  | ccf
  /-- `LD B,B`, 0x40, R157. -/
  | ldBB
  /-- `LD B,C`, 0x41, R157. -/
  | ldBC
  /-- `LD B,D`, 0x42, R157. -/
  | ldBD
  /-- `LD B,E`, 0x43, R157. -/
  | ldBE
  /-- `LD B,H`, 0x44, R157. -/
  | ldBH
  /-- `LD B,L`, 0x45, R157. -/
  | ldBL
  /-- `LD B,(HL)`, 0x46, R158. -/
  | ldBMemHl
  /-- `LD B,A`, 0x47, R157. -/
  | ldBA
  /-- `LD C,B`, 0x48, R157. -/
  | ldCB
  /-- `LD C,C`, 0x49, R157. -/
  | ldCC
  /-- `LD C,D`, 0x4A, R157. -/
  | ldCD
  /-- `LD C,E`, 0x4B, R157. -/
  | ldCE
  /-- `LD C,H`, 0x4C, R157. -/
  | ldCH
  /-- `LD C,L`, 0x4D, R157. -/
  | ldCL
  /-- `LD C,(HL)`, 0x4E, R158. -/
  | ldCMemHl
  /-- `LD C,A`, 0x4F, R157. -/
  | ldCA
  /-- `LD D,B`, 0x50, R157. -/
  | ldDB
  /-- `LD D,C`, 0x51, R157. -/
  | ldDC
  /-- `LD D,D`, 0x52, R157. -/
  | ldDD
  /-- `LD D,E`, 0x53, R157. -/
  | ldDE
  /-- `LD D,H`, 0x54, R157. -/
  | ldDH
  /-- `LD D,L`, 0x55, R157. -/
  | ldDL
  /-- `LD D,(HL)`, 0x56, R158. -/
  | ldDMemHl
  /-- `LD D,A`, 0x57, R157. -/
  | ldDA
  /-- `LD E,B`, 0x58, R157. -/
  | ldEB
  /-- `LD E,C`, 0x59, R157. -/
  | ldEC
  /-- `LD E,D`, 0x5A, R157. -/
  | ldED
  /-- `LD E,E`, 0x5B, R157. -/
  | ldEE
  /-- `LD E,H`, 0x5C, R157. -/
  | ldEH
  /-- `LD E,L`, 0x5D, R157. -/
  | ldEL
  /-- `LD E,(HL)`, 0x5E, R158. -/
  | ldEMemHl
  /-- `LD E,A`, 0x5F, R157. -/
  | ldEA
  /-- `LD H,B`, 0x60, R157. -/
  | ldHB
  /-- `LD H,C`, 0x61, R157. -/
  | ldHC
  /-- `LD H,D`, 0x62, R157. -/
  | ldHD
  /-- `LD H,E`, 0x63, R157. -/
  | ldHE
  /-- `LD H,H`, 0x64, R157. -/
  | ldHH
  /-- `LD H,L`, 0x65, R157. -/
  | ldHL
  /-- `LD H,(HL)`, 0x66, R158. -/
  | ldHMemHl
  /-- `LD H,A`, 0x67, R157. -/
  | ldHA
  /-- `LD L,B`, 0x68, R157. -/
  | ldLB
  /-- `LD L,C`, 0x69, R157. -/
  | ldLC
  /-- `LD L,D`, 0x6A, R157. -/
  | ldLD
  /-- `LD L,E`, 0x6B, R157. -/
  | ldLE
  /-- `LD L,H`, 0x6C, R157. -/
  | ldLH
  /-- `LD L,L`, 0x6D, R157. -/
  | ldLL
  /-- `LD L,(HL)`, 0x6E, R158. -/
  | ldLMemHl
  /-- `LD L,A`, 0x6F, R157. -/
  | ldLA
  /-- `LD (HL),B`, 0x70, R159. -/
  | ldMemHlB
  /-- `LD (HL),C`, 0x71, R159. -/
  | ldMemHlC
  /-- `LD (HL),D`, 0x72, R159. -/
  | ldMemHlD
  /-- `LD (HL),E`, 0x73, R159. -/
  | ldMemHlE
  /-- `LD (HL),H`, 0x74, R159. -/
  | ldMemHlH
  /-- `LD (HL),L`, 0x75, R159. -/
  | ldMemHlL
  /-- `HALT`, 0x76, R215. -/
  | halt
  /-- `LD (HL),A`, 0x77, R159. -/
  | ldMemHlA
  /-- `LD A,B`, 0x78, R157. -/
  | ldAB
  /-- `LD A,C`, 0x79, R157. -/
  | ldAC
  /-- `LD A,D`, 0x7A, R157. -/
  | ldAD
  /-- `LD A,E`, 0x7B, R157. -/
  | ldAE
  /-- `LD A,H`, 0x7C, R157. -/
  | ldAH
  /-- `LD A,L`, 0x7D, R157. -/
  | ldAL
  /-- `LD A,(HL)`, 0x7E, R158. -/
  | ldAMemHl
  /-- `LD A,A`, 0x7F, R157. -/
  | ldAA
  /-- `ADD A,B`, 0x80, R185. -/
  | addAB
  /-- `ADD A,C`, 0x81, R185. -/
  | addAC
  /-- `ADD A,D`, 0x82, R185. -/
  | addAD
  /-- `ADD A,E`, 0x83, R185. -/
  | addAE
  /-- `ADD A,H`, 0x84, R185. -/
  | addAH
  /-- `ADD A,L`, 0x85, R185. -/
  | addAL
  /-- `ADD A,(HL)`, 0x86, R185. -/
  | addAMemHl
  /-- `ADD A,A`, 0x87, R185. -/
  | addAA
  /-- `ADC A,B`, 0x88, R186. -/
  | adcAB
  /-- `ADC A,C`, 0x89, R186. -/
  | adcAC
  /-- `ADC A,D`, 0x8A, R186. -/
  | adcAD
  /-- `ADC A,E`, 0x8B, R186. -/
  | adcAE
  /-- `ADC A,H`, 0x8C, R186. -/
  | adcAH
  /-- `ADC A,L`, 0x8D, R186. -/
  | adcAL
  /-- `ADC A,(HL)`, 0x8E, R186. -/
  | adcAMemHl
  /-- `ADC A,A`, 0x8F, R186. -/
  | adcAA
  /-- `SUB B`, 0x90, R187. -/
  | subB
  /-- `SUB C`, 0x91, R187. -/
  | subC
  /-- `SUB D`, 0x92, R187. -/
  | subD
  /-- `SUB E`, 0x93, R187. -/
  | subE
  /-- `SUB H`, 0x94, R187. -/
  | subH
  /-- `SUB L`, 0x95, R187. -/
  | subL
  /-- `SUB (HL)`, 0x96, R187. -/
  | subMemHl
  /-- `SUB A`, 0x97, R187. -/
  | subA
  /-- `SBC A,B`, 0x98, R188. -/
  | sbcAB
  /-- `SBC A,C`, 0x99, R188. -/
  | sbcAC
  /-- `SBC A,D`, 0x9A, R188. -/
  | sbcAD
  /-- `SBC A,E`, 0x9B, R188. -/
  | sbcAE
  /-- `SBC A,H`, 0x9C, R188. -/
  | sbcAH
  /-- `SBC A,L`, 0x9D, R188. -/
  | sbcAL
  /-- `SBC A,(HL)`, 0x9E, R188. -/
  | sbcAMemHl
  /-- `SBC A,A`, 0x9F, R188. -/
  | sbcAA
  /-- `AND B`, 0xA0, R189. -/
  | andB
  /-- `AND C`, 0xA1, R189. -/
  | andC
  /-- `AND D`, 0xA2, R189. -/
  | andD
  /-- `AND E`, 0xA3, R189. -/
  | andE
  /-- `AND H`, 0xA4, R189. -/
  | andH
  /-- `AND L`, 0xA5, R189. -/
  | andL
  /-- `AND (HL)`, 0xA6, R189. -/
  | andMemHl
  /-- `AND A`, 0xA7, R189. -/
  | andA
  /-- `XOR B`, 0xA8, R190. -/
  | xorB
  /-- `XOR C`, 0xA9, R190. -/
  | xorC
  /-- `XOR D`, 0xAA, R190. -/
  | xorD
  /-- `XOR E`, 0xAB, R190. -/
  | xorE
  /-- `XOR H`, 0xAC, R190. -/
  | xorH
  /-- `XOR L`, 0xAD, R190. -/
  | xorL
  /-- `XOR (HL)`, 0xAE, R190. -/
  | xorMemHl
  /-- `XOR A`, 0xAF, R190. -/
  | xorA
  /-- `OR B`, 0xB0, R191. -/
  | orB
  /-- `OR C`, 0xB1, R191. -/
  | orC
  /-- `OR D`, 0xB2, R191. -/
  | orD
  /-- `OR E`, 0xB3, R191. -/
  | orE
  /-- `OR H`, 0xB4, R191. -/
  | orH
  /-- `OR L`, 0xB5, R191. -/
  | orL
  /-- `OR (HL)`, 0xB6, R191. -/
  | orMemHl
  /-- `OR A`, 0xB7, R191. -/
  | orA
  /-- `CP B`, 0xB8, R192. -/
  | cpB
  /-- `CP C`, 0xB9, R192. -/
  | cpC
  /-- `CP D`, 0xBA, R192. -/
  | cpD
  /-- `CP E`, 0xBB, R192. -/
  | cpE
  /-- `CP H`, 0xBC, R192. -/
  | cpH
  /-- `CP L`, 0xBD, R192. -/
  | cpL
  /-- `CP (HL)`, 0xBE, R192. -/
  | cpMemHl
  /-- `CP A`, 0xBF, R192. -/
  | cpA
  /-- `RET NZ`, 0xC0, R139. -/
  | retNz
  /-- `POP BC`, 0xC1, R139. -/
  | popBc
  /-- `JP NZ,nn`, 0xC2, R139. -/
  | jpNzNn
  /-- `JP nn`, 0xC3, R139. -/
  | jpNn
  /-- `CALL NZ,nn`, 0xC4, R139. -/
  | callNzNn
  /-- `PUSH BC`, 0xC5, R139. -/
  | pushBc
  /-- `ADD A,n`, 0xC6, R139. -/
  | addAN
  /-- `RST 00h`, 0xC7, R139. -/
  | rst00
  /-- `RET Z`, 0xC8, R139. -/
  | retZ
  /-- `RET`, 0xC9, R139. -/
  | ret
  /-- `JP Z,nn`, 0xCA, R139. -/
  | jpZNn
  /-- `PREFIX CB`, 0xCB, R139. -/
  | prefixCb
  /-- `CALL Z,nn`, 0xCC, R139. -/
  | callZNn
  /-- `CALL nn`, 0xCD, R139. -/
  | callNn
  /-- `ADC A,n`, 0xCE, R139. -/
  | adcAN
  /-- `RST 08h`, 0xCF, R139. -/
  | rst08
  /-- `RET NC`, 0xD0, R139. -/
  | retNc
  /-- `POP DE`, 0xD1, R139. -/
  | popDe
  /-- `JP NC,nn`, 0xD2, R139. -/
  | jpNcNn
  /-- `OUT (n),A`, 0xD3, R139. -/
  | outPortNA
  /-- `CALL NC,nn`, 0xD4, R139. -/
  | callNcNn
  /-- `PUSH DE`, 0xD5, R139. -/
  | pushDe
  /-- `SUB n`, 0xD6, R139. -/
  | subN
  /-- `RST 10h`, 0xD7, R139. -/
  | rst10
  /-- `RET C`, 0xD8, R139. -/
  | retC
  /-- `EXX`, 0xD9, R139. -/
  | exx
  /-- `JP C,nn`, 0xDA, R139. -/
  | jpCNn
  /-- `IN A,(n)`, 0xDB, R139. -/
  | inAPortN
  /-- `CALL C,nn`, 0xDC, R139. -/
  | callCNn
  /-- `PREFIX DD`, 0xDD, R139. -/
  | prefixDd
  /-- `SBC A,n`, 0xDE, R139. -/
  | sbcAN
  /-- `RST 18h`, 0xDF, R139. -/
  | rst18
  /-- `RET PO`, 0xE0, R139. -/
  | retPo
  /-- `POP HL`, 0xE1, R139. -/
  | popHl
  /-- `JP PO,nn`, 0xE2, R139. -/
  | jpPoNn
  /-- `EX (SP),HL`, 0xE3, R139. -/
  | exMemSpHl
  /-- `CALL PO,nn`, 0xE4, R139. -/
  | callPoNn
  /-- `PUSH HL`, 0xE5, R139. -/
  | pushHl
  /-- `AND n`, 0xE6, R139. -/
  | andN
  /-- `RST 20h`, 0xE7, R139. -/
  | rst20
  /-- `RET PE`, 0xE8, R139. -/
  | retPe
  /-- `JP (HL)`, 0xE9, R139. -/
  | jpMemHl
  /-- `JP PE,nn`, 0xEA, R139. -/
  | jpPeNn
  /-- `EX DE,HL`, 0xEB, R139. -/
  | exDeHl
  /-- `CALL PE,nn`, 0xEC, R139. -/
  | callPeNn
  /-- `PREFIX ED`, 0xED, R139. -/
  | prefixEd
  /-- `XOR n`, 0xEE, R139. -/
  | xorN
  /-- `RST 28h`, 0xEF, R139. -/
  | rst28
  /-- `RET P`, 0xF0, R139. -/
  | retP
  /-- `POP AF`, 0xF1, R139. -/
  | popAf
  /-- `JP P,nn`, 0xF2, R139. -/
  | jpPNn
  /-- `DI`, 0xF3, R139. -/
  | di
  /-- `CALL P,nn`, 0xF4, R139. -/
  | callPNn
  /-- `PUSH AF`, 0xF5, R139. -/
  | pushAf
  /-- `OR n`, 0xF6, R139. -/
  | orN
  /-- `RST 30h`, 0xF7, R139. -/
  | rst30
  /-- `RET M`, 0xF8, R139. -/
  | retM
  /-- `LD SP,HL`, 0xF9, R139. -/
  | ldSpHl
  /-- `JP M,nn`, 0xFA, R139. -/
  | jpMNn
  /-- `EI`, 0xFB, R139. -/
  | ei
  /-- `CALL M,nn`, 0xFC, R139. -/
  | callMNn
  /-- `PREFIX FD`, 0xFD, R139. -/
  | prefixFd
  /-- `CP n`, 0xFE, R139. -/
  | cpN
  /-- `RST 38h`, 0xFF, R139. -/
  | rst38
deriving DecidableEq, Repr

end Sys2Proof
end

