-- ==== Sys2Proof/WellFormed.lean ====
section
/-! DEFINITION. When an instruction is well formed: its displacement, if it has one, is in the range of R78. Every other
operand is well formed by its type (R76, R77). An image is well formed when it fits the address space (R51, R261). -/

namespace Sys2Proof

/-- A displacement is a signed 8-bit value (R78). -/
def dispInRange (d : Int) : Bool := decide (-128 ≤ d) && decide (d ≤ 127)

/-- An instruction that has an encoding. -/
def Instr.wf : Instr → Bool
  | .djnz d => dispInRange d
  | .jr d => dispInRange d
  | .jrNz d => dispInRange d
  | .jrZ d => dispInRange d
  | .jrNc d => dispInRange d
  | .jrC d => dispInRange d
  | .nop | .ldBcNn _ | .ldMemBcA | .incBc | .incB | .decB | .ldBN _ | .rlca | .exAfAf | .addHlBc | .ldAMemBc
  | .decBc | .incC | .decC | .ldCN _ | .rrca | .ldDeNn _ | .ldMemDeA | .incDe | .incD | .decD | .ldDN _ | .rla
  | .addHlDe | .ldAMemDe | .decDe | .incE | .decE | .ldEN _ | .rra | .ldHlNn _ | .ldMemNnHl _ | .incHl | .incH
  | .decH | .ldHN _ | .daa | .addHlHl | .ldHlMemNn _ | .decHl | .incL | .decL | .ldLN _ | .cpl | .ldSpNn _
  | .ldMemNnA _ | .incSp | .incMemHl | .decMemHl | .ldMemHlN _ | .scf | .addHlSp | .ldAMemNn _ | .decSp | .incA
  | .decA | .ldAN _ | .ccf | .ldBB | .ldBC | .ldBD | .ldBE | .ldBH | .ldBL | .ldBMemHl | .ldBA | .ldCB | .ldCC
  | .ldCD | .ldCE | .ldCH | .ldCL | .ldCMemHl | .ldCA | .ldDB | .ldDC | .ldDD | .ldDE | .ldDH | .ldDL
  | .ldDMemHl | .ldDA | .ldEB | .ldEC | .ldED | .ldEE | .ldEH | .ldEL | .ldEMemHl | .ldEA | .ldHB | .ldHC
  | .ldHD | .ldHE | .ldHH | .ldHL | .ldHMemHl | .ldHA | .ldLB | .ldLC | .ldLD | .ldLE | .ldLH | .ldLL
  | .ldLMemHl | .ldLA | .ldMemHlB | .ldMemHlC | .ldMemHlD | .ldMemHlE | .ldMemHlH | .ldMemHlL | .halt
  | .ldMemHlA | .ldAB | .ldAC | .ldAD | .ldAE | .ldAH | .ldAL | .ldAMemHl | .ldAA | .addAB | .addAC | .addAD
  | .addAE | .addAH | .addAL | .addAMemHl | .addAA | .adcAB | .adcAC | .adcAD | .adcAE | .adcAH | .adcAL
  | .adcAMemHl | .adcAA | .subB | .subC | .subD | .subE | .subH | .subL | .subMemHl | .subA | .sbcAB | .sbcAC
  | .sbcAD | .sbcAE | .sbcAH | .sbcAL | .sbcAMemHl | .sbcAA | .andB | .andC | .andD | .andE | .andH | .andL
  | .andMemHl | .andA | .xorB | .xorC | .xorD | .xorE | .xorH | .xorL | .xorMemHl | .xorA | .orB | .orC | .orD
  | .orE | .orH | .orL | .orMemHl | .orA | .cpB | .cpC | .cpD | .cpE | .cpH | .cpL | .cpMemHl | .cpA | .retNz
  | .popBc | .jpNzNn | .jpNn | .callNzNn | .pushBc | .addAN | .rst00 | .retZ | .ret | .jpZNn | .prefixCb
  | .callZNn | .callNn | .adcAN | .rst08 | .retNc | .popDe | .jpNcNn | .outPortNA | .callNcNn | .pushDe | .subN
  | .rst10 | .retC | .exx | .jpCNn | .inAPortN | .callCNn | .prefixDd | .sbcAN | .rst18 | .retPo | .popHl
  | .jpPoNn | .exMemSpHl | .callPoNn | .pushHl | .andN | .rst20 | .retPe | .jpMemHl | .jpPeNn | .exDeHl
  | .callPeNn | .prefixEd | .xorN | .rst28 | .retP | .popAf | .jpPNn | .di | .callPNn | .pushAf | .orN | .rst30
  | .retM | .ldSpHl | .jpMNn | .ei | .callMNn | .prefixFd | .cpN | .rst38 => true

/-- An image that `construct` accepts: at most 65536 bytes (R261). -/
def imageWf (bytes : List Byte) : Bool := decide (bytes.length ≤ 65536)

end Sys2Proof
end

