-- ==== Sys2Proof/Decode.lean ====
section
/-! DEFINITION. The executor's decoder, from the field tables of R71-R75 and R79, and the encoder, from the opcodes of
the instruction rules and spec/opcode_table.json. The display decoder of 47_decoder.md is another component
(Machine/DisplayDecoder.lean): the executor never uses it (R83). -/

namespace Sys2Proof

/-! ### Byte order and fields -/

/-- `cat(hi, lo)` is `hi * 256 + lo` (R10). -/
def cat (hi lo : Byte) : Word := BitVec.ofNat 16 (hi.toNat * 256 + lo.toNat)

/-- `v[15:8]` of a `u16`. -/
def hiByte (v : Word) : Byte := v.extractLsb' 8 8

/-- `v[7:0]` of a `u16`. -/
def loByte (v : Word) : Byte := v.extractLsb' 0 8

/-- `sext_8` of a displacement byte (R10, R78). -/
def dispOfByte (b : Byte) : Int := b.toInt

/-- The displacement byte of a signed displacement (R78). -/
def byteOfDisp (d : Int) : Byte := BitVec.ofInt 8 d

/-- The field `x = op[7:6]` (R71). -/
def fieldX (op : Byte) : Nat := op.toNat / 64

/-- The field `y = op[5:3]` (R71). -/
def fieldY (op : Byte) : Nat := op.toNat / 8 % 8

/-- The field `z = op[2:0]` (R71). -/
def fieldZ (op : Byte) : Nat := op.toNat % 8

/-- The entry of a table line of eight that a 3-bit field selects. -/
def pick8 {α : Type} (n : Nat) (a0 a1 a2 a3 a4 a5 a6 a7 : α) : α :=
  match n with
  | 0 => a0
  | 1 => a1
  | 2 => a2
  | 3 => a3
  | 4 => a4
  | 5 => a5
  | 6 => a6
  | _ => a7

/-! ### Selection (R72-R75) -/

/-- What an opcode byte selects: an instruction with no operand byte, or one that waits for its operand. The four
cases are the formats of R70. -/
inductive Row where
  /-- Format `OP`. -/
  | op (i : Instr)
  /-- Format `OP_N`: one immediate byte (R76). -/
  | opN (mk : Byte → Instr)
  /-- Format `OP_D`: one displacement byte (R78). -/
  | opD (mk : Int → Instr)
  /-- Format `OP_NN`: one little-endian immediate word (R77). -/
  | opNn (mk : Word → Instr)

/-- The number of operand bytes (R70, R79). -/
def Row.operandCount : Row → Nat
  | .op _ => 0
  | .opN _ => 1
  | .opD _ => 1
  | .opNn _ => 2

/-- Quadrant x = 0 (R72): a line per `z`, its entries by `y`. -/
def rowX0 (y z : Nat) : Row :=
  match z with
  | 0 => pick8 y (.op .nop) (.op .exAfAf) (.opD .djnz) (.opD .jr)
    (.opD .jrNz) (.opD .jrZ) (.opD .jrNc) (.opD .jrC)
  | 1 => pick8 y (.opNn .ldBcNn) (.op .addHlBc) (.opNn .ldDeNn) (.op .addHlDe)
    (.opNn .ldHlNn) (.op .addHlHl) (.opNn .ldSpNn) (.op .addHlSp)
  | 2 => pick8 y (.op .ldMemBcA) (.op .ldAMemBc) (.op .ldMemDeA) (.op .ldAMemDe)
    (.opNn .ldMemNnHl) (.opNn .ldHlMemNn) (.opNn .ldMemNnA) (.opNn .ldAMemNn)
  | 3 => pick8 y (.op .incBc) (.op .decBc) (.op .incDe) (.op .decDe)
    (.op .incHl) (.op .decHl) (.op .incSp) (.op .decSp)
  | 4 => pick8 y (.op .incB) (.op .incC) (.op .incD) (.op .incE)
    (.op .incH) (.op .incL) (.op .incMemHl) (.op .incA)
  | 5 => pick8 y (.op .decB) (.op .decC) (.op .decD) (.op .decE)
    (.op .decH) (.op .decL) (.op .decMemHl) (.op .decA)
  | 6 => pick8 y (.opN .ldBN) (.opN .ldCN) (.opN .ldDN) (.opN .ldEN)
    (.opN .ldHN) (.opN .ldLN) (.opN .ldMemHlN) (.opN .ldAN)
  | _ => pick8 y (.op .rlca) (.op .rrca) (.op .rla) (.op .rra) (.op .daa) (.op .cpl) (.op .scf) (.op .ccf)

/-- Quadrant x = 1 (R73): the move matrix, a line per destination `y`, its entries by source `z`; (6, 6) is HALT. -/
def instrX1 (y z : Nat) : Instr :=
  match y with
  | 0 => pick8 z .ldBB .ldBC .ldBD .ldBE .ldBH .ldBL .ldBMemHl .ldBA
  | 1 => pick8 z .ldCB .ldCC .ldCD .ldCE .ldCH .ldCL .ldCMemHl .ldCA
  | 2 => pick8 z .ldDB .ldDC .ldDD .ldDE .ldDH .ldDL .ldDMemHl .ldDA
  | 3 => pick8 z .ldEB .ldEC .ldED .ldEE .ldEH .ldEL .ldEMemHl .ldEA
  | 4 => pick8 z .ldHB .ldHC .ldHD .ldHE .ldHH .ldHL .ldHMemHl .ldHA
  | 5 => pick8 z .ldLB .ldLC .ldLD .ldLE .ldLH .ldLL .ldLMemHl .ldLA
  | 6 => pick8 z .ldMemHlB .ldMemHlC .ldMemHlD .ldMemHlE .ldMemHlH .ldMemHlL .halt .ldMemHlA
  | _ => pick8 z .ldAB .ldAC .ldAD .ldAE .ldAH .ldAL .ldAMemHl .ldAA

/-- Quadrant x = 2 (R74): the ALU group, a line per operation `y`, its entries by operand `z`. -/
def instrX2 (y z : Nat) : Instr :=
  match y with
  | 0 => pick8 z .addAB .addAC .addAD .addAE .addAH .addAL .addAMemHl .addAA
  | 1 => pick8 z .adcAB .adcAC .adcAD .adcAE .adcAH .adcAL .adcAMemHl .adcAA
  | 2 => pick8 z .subB .subC .subD .subE .subH .subL .subMemHl .subA
  | 3 => pick8 z .sbcAB .sbcAC .sbcAD .sbcAE .sbcAH .sbcAL .sbcAMemHl .sbcAA
  | 4 => pick8 z .andB .andC .andD .andE .andH .andL .andMemHl .andA
  | 5 => pick8 z .xorB .xorC .xorD .xorE .xorH .xorL .xorMemHl .xorA
  | 6 => pick8 z .orB .orC .orD .orE .orH .orL .orMemHl .orA
  | _ => pick8 z .cpB .cpC .cpD .cpE .cpH .cpL .cpMemHl .cpA

/-- Quadrant x = 3 (R75): the opcodes without an executed group, named as R221 names them. -/
def instrX3 (y z : Nat) : Instr :=
  match y with
  | 0 => pick8 z .retNz .popBc .jpNzNn .jpNn .callNzNn .pushBc .addAN .rst00
  | 1 => pick8 z .retZ .ret .jpZNn .prefixCb .callZNn .callNn .adcAN .rst08
  | 2 => pick8 z .retNc .popDe .jpNcNn .outPortNA .callNcNn .pushDe .subN .rst10
  | 3 => pick8 z .retC .exx .jpCNn .inAPortN .callCNn .prefixDd .sbcAN .rst18
  | 4 => pick8 z .retPo .popHl .jpPoNn .exMemSpHl .callPoNn .pushHl .andN .rst20
  | 5 => pick8 z .retPe .jpMemHl .jpPeNn .exDeHl .callPeNn .prefixEd .xorN .rst28
  | 6 => pick8 z .retP .popAf .jpPNn .di .callPNn .pushAf .orN .rst30
  | _ => pick8 z .retM .ldSpHl .jpMNn .ei .callMNn .prefixFd .cpN .rst38

/-- The selection of R72-R75 by the fields of R71. -/
def row (op : Byte) : Row :=
  match fieldX op with
  | 0 => rowX0 (fieldY op) (fieldZ op)
  | 1 => .op (instrX1 (fieldY op) (fieldZ op))
  | 2 => .op (instrX2 (fieldY op) (fieldZ op))
  | _ => .op (instrX3 (fieldY op) (fieldZ op))

/-- The number of operand bytes the executor fetches after an opcode, told from the opcode alone (R79); none after an
opcode 0xC0-0xFF (R139, R140). -/
def operandCount (op : Byte) : Nat := (row op).operandCount

/-! ### Decoding bytes -/

/-- Why bytes do not decode. No opcode byte is reserved (R81), so only missing bytes are rejected. -/
inductive DecodeError where
  /-- There is no opcode byte. -/
  | noOpcode
  /-- The opcode asks for more operand bytes than there are. -/
  | missingOperand (op : Byte)
deriving DecidableEq, Repr

/-- Decode the instruction at the head of a byte list and answer it with the bytes after it (R54, R70, R76-R79). -/
def decode : List Byte → Except DecodeError (Instr × List Byte)
  | [] => .error .noOpcode
  | op :: rest =>
    match row op, rest with
    | .op i, rest => .ok (i, rest)
    | .opN mk, n :: rest => .ok (mk n, rest)
    | .opD mk, d :: rest => .ok (mk (dispOfByte d), rest)
    | .opNn mk, lo :: hi :: rest => .ok (mk (cat hi lo), rest)
    | _, _ => .error (.missingOperand op)

/-- The three bytes, first byte first, of an instruction whose bits are `w` of which `nbits` are given: every bit above
them is 0. Three bytes is the longest instruction (R70). -/
def tableBytes (nbits w : Nat) : List Byte :=
  let v := w % 2 ^ nbits
  [BitVec.ofNat 8 v, BitVec.ofNat 8 (v / 256), BitVec.ofNat 8 (v / 65536)]

/-- The instruction the decoder reads from a word numbered as spec/opcode_table.json numbers it. -/
def decodeTableWord (nbits w : Nat) : Option Instr :=
  match decode (tableBytes nbits w) with
  | .ok (i, _) => some i
  | .error _ => none

/-! ### Encoding -/

/-- The bytes of an instruction, lowest address first (R70). -/
def encode : Instr → List Byte
  | .nop => [0x00]
  | .ldBcNn nn => [0x01, loByte nn, hiByte nn]
  | .ldMemBcA => [0x02]
  | .incBc => [0x03]
  | .incB => [0x04]
  | .decB => [0x05]
  | .ldBN n => [0x06, n]
  | .rlca => [0x07]
  | .exAfAf => [0x08]
  | .addHlBc => [0x09]
  | .ldAMemBc => [0x0A]
  | .decBc => [0x0B]
  | .incC => [0x0C]
  | .decC => [0x0D]
  | .ldCN n => [0x0E, n]
  | .rrca => [0x0F]
  | .djnz d => [0x10, byteOfDisp d]
  | .ldDeNn nn => [0x11, loByte nn, hiByte nn]
  | .ldMemDeA => [0x12]
  | .incDe => [0x13]
  | .incD => [0x14]
  | .decD => [0x15]
  | .ldDN n => [0x16, n]
  | .rla => [0x17]
  | .jr d => [0x18, byteOfDisp d]
  | .addHlDe => [0x19]
  | .ldAMemDe => [0x1A]
  | .decDe => [0x1B]
  | .incE => [0x1C]
  | .decE => [0x1D]
  | .ldEN n => [0x1E, n]
  | .rra => [0x1F]
  | .jrNz d => [0x20, byteOfDisp d]
  | .ldHlNn nn => [0x21, loByte nn, hiByte nn]
  | .ldMemNnHl nn => [0x22, loByte nn, hiByte nn]
  | .incHl => [0x23]
  | .incH => [0x24]
  | .decH => [0x25]
  | .ldHN n => [0x26, n]
  | .daa => [0x27]
  | .jrZ d => [0x28, byteOfDisp d]
  | .addHlHl => [0x29]
  | .ldHlMemNn nn => [0x2A, loByte nn, hiByte nn]
  | .decHl => [0x2B]
  | .incL => [0x2C]
  | .decL => [0x2D]
  | .ldLN n => [0x2E, n]
  | .cpl => [0x2F]
  | .jrNc d => [0x30, byteOfDisp d]
  | .ldSpNn nn => [0x31, loByte nn, hiByte nn]
  | .ldMemNnA nn => [0x32, loByte nn, hiByte nn]
  | .incSp => [0x33]
  | .incMemHl => [0x34]
  | .decMemHl => [0x35]
  | .ldMemHlN n => [0x36, n]
  | .scf => [0x37]
  | .jrC d => [0x38, byteOfDisp d]
  | .addHlSp => [0x39]
  | .ldAMemNn nn => [0x3A, loByte nn, hiByte nn]
  | .decSp => [0x3B]
  | .incA => [0x3C]
  | .decA => [0x3D]
  | .ldAN n => [0x3E, n]
  | .ccf => [0x3F]
  | .ldBB => [0x40]
  | .ldBC => [0x41]
  | .ldBD => [0x42]
  | .ldBE => [0x43]
  | .ldBH => [0x44]
  | .ldBL => [0x45]
  | .ldBMemHl => [0x46]
  | .ldBA => [0x47]
  | .ldCB => [0x48]
  | .ldCC => [0x49]
  | .ldCD => [0x4A]
  | .ldCE => [0x4B]
  | .ldCH => [0x4C]
  | .ldCL => [0x4D]
  | .ldCMemHl => [0x4E]
  | .ldCA => [0x4F]
  | .ldDB => [0x50]
  | .ldDC => [0x51]
  | .ldDD => [0x52]
  | .ldDE => [0x53]
  | .ldDH => [0x54]
  | .ldDL => [0x55]
  | .ldDMemHl => [0x56]
  | .ldDA => [0x57]
  | .ldEB => [0x58]
  | .ldEC => [0x59]
  | .ldED => [0x5A]
  | .ldEE => [0x5B]
  | .ldEH => [0x5C]
  | .ldEL => [0x5D]
  | .ldEMemHl => [0x5E]
  | .ldEA => [0x5F]
  | .ldHB => [0x60]
  | .ldHC => [0x61]
  | .ldHD => [0x62]
  | .ldHE => [0x63]
  | .ldHH => [0x64]
  | .ldHL => [0x65]
  | .ldHMemHl => [0x66]
  | .ldHA => [0x67]
  | .ldLB => [0x68]
  | .ldLC => [0x69]
  | .ldLD => [0x6A]
  | .ldLE => [0x6B]
  | .ldLH => [0x6C]
  | .ldLL => [0x6D]
  | .ldLMemHl => [0x6E]
  | .ldLA => [0x6F]
  | .ldMemHlB => [0x70]
  | .ldMemHlC => [0x71]
  | .ldMemHlD => [0x72]
  | .ldMemHlE => [0x73]
  | .ldMemHlH => [0x74]
  | .ldMemHlL => [0x75]
  | .halt => [0x76]
  | .ldMemHlA => [0x77]
  | .ldAB => [0x78]
  | .ldAC => [0x79]
  | .ldAD => [0x7A]
  | .ldAE => [0x7B]
  | .ldAH => [0x7C]
  | .ldAL => [0x7D]
  | .ldAMemHl => [0x7E]
  | .ldAA => [0x7F]
  | .addAB => [0x80]
  | .addAC => [0x81]
  | .addAD => [0x82]
  | .addAE => [0x83]
  | .addAH => [0x84]
  | .addAL => [0x85]
  | .addAMemHl => [0x86]
  | .addAA => [0x87]
  | .adcAB => [0x88]
  | .adcAC => [0x89]
  | .adcAD => [0x8A]
  | .adcAE => [0x8B]
  | .adcAH => [0x8C]
  | .adcAL => [0x8D]
  | .adcAMemHl => [0x8E]
  | .adcAA => [0x8F]
  | .subB => [0x90]
  | .subC => [0x91]
  | .subD => [0x92]
  | .subE => [0x93]
  | .subH => [0x94]
  | .subL => [0x95]
  | .subMemHl => [0x96]
  | .subA => [0x97]
  | .sbcAB => [0x98]
  | .sbcAC => [0x99]
  | .sbcAD => [0x9A]
  | .sbcAE => [0x9B]
  | .sbcAH => [0x9C]
  | .sbcAL => [0x9D]
  | .sbcAMemHl => [0x9E]
  | .sbcAA => [0x9F]
  | .andB => [0xA0]
  | .andC => [0xA1]
  | .andD => [0xA2]
  | .andE => [0xA3]
  | .andH => [0xA4]
  | .andL => [0xA5]
  | .andMemHl => [0xA6]
  | .andA => [0xA7]
  | .xorB => [0xA8]
  | .xorC => [0xA9]
  | .xorD => [0xAA]
  | .xorE => [0xAB]
  | .xorH => [0xAC]
  | .xorL => [0xAD]
  | .xorMemHl => [0xAE]
  | .xorA => [0xAF]
  | .orB => [0xB0]
  | .orC => [0xB1]
  | .orD => [0xB2]
  | .orE => [0xB3]
  | .orH => [0xB4]
  | .orL => [0xB5]
  | .orMemHl => [0xB6]
  | .orA => [0xB7]
  | .cpB => [0xB8]
  | .cpC => [0xB9]
  | .cpD => [0xBA]
  | .cpE => [0xBB]
  | .cpH => [0xBC]
  | .cpL => [0xBD]
  | .cpMemHl => [0xBE]
  | .cpA => [0xBF]
  | .retNz => [0xC0]
  | .popBc => [0xC1]
  | .jpNzNn => [0xC2]
  | .jpNn => [0xC3]
  | .callNzNn => [0xC4]
  | .pushBc => [0xC5]
  | .addAN => [0xC6]
  | .rst00 => [0xC7]
  | .retZ => [0xC8]
  | .ret => [0xC9]
  | .jpZNn => [0xCA]
  | .prefixCb => [0xCB]
  | .callZNn => [0xCC]
  | .callNn => [0xCD]
  | .adcAN => [0xCE]
  | .rst08 => [0xCF]
  | .retNc => [0xD0]
  | .popDe => [0xD1]
  | .jpNcNn => [0xD2]
  | .outPortNA => [0xD3]
  | .callNcNn => [0xD4]
  | .pushDe => [0xD5]
  | .subN => [0xD6]
  | .rst10 => [0xD7]
  | .retC => [0xD8]
  | .exx => [0xD9]
  | .jpCNn => [0xDA]
  | .inAPortN => [0xDB]
  | .callCNn => [0xDC]
  | .prefixDd => [0xDD]
  | .sbcAN => [0xDE]
  | .rst18 => [0xDF]
  | .retPo => [0xE0]
  | .popHl => [0xE1]
  | .jpPoNn => [0xE2]
  | .exMemSpHl => [0xE3]
  | .callPoNn => [0xE4]
  | .pushHl => [0xE5]
  | .andN => [0xE6]
  | .rst20 => [0xE7]
  | .retPe => [0xE8]
  | .jpMemHl => [0xE9]
  | .jpPeNn => [0xEA]
  | .exDeHl => [0xEB]
  | .callPeNn => [0xEC]
  | .prefixEd => [0xED]
  | .xorN => [0xEE]
  | .rst28 => [0xEF]
  | .retP => [0xF0]
  | .popAf => [0xF1]
  | .jpPNn => [0xF2]
  | .di => [0xF3]
  | .callPNn => [0xF4]
  | .pushAf => [0xF5]
  | .orN => [0xF6]
  | .rst30 => [0xF7]
  | .retM => [0xF8]
  | .ldSpHl => [0xF9]
  | .jpMNn => [0xFA]
  | .ei => [0xFB]
  | .callMNn => [0xFC]
  | .prefixFd => [0xFD]
  | .cpN => [0xFE]
  | .rst38 => [0xFF]

end Sys2Proof
end

