-- ==== Sys2Proof/Config.lean ====
section
/-! DEFINITION. The parameters of R8. A parameter that a step or the display decoder reads is a field of `Params`,
which the state carries as plain data (log 2), so that a claim about every state is a claim about every value of
every parameter. IMAGE_LEN is the extent of `Memory`; RESET_DRAW is an argument of the reset procedure. -/

namespace Sys2Proof

/-- `UNIMPL_MODE` (R8): what a step whose opcode is 0xC0-0xFF does, R139 or R140. -/
inductive UnimplMode where
  | refuse
  | skip
deriving DecidableEq, Repr

/-- `F35_SRC` (R8, R102): where INC, DEC and CP take F5 and F3 from. -/
inductive F35Src where
  | result
  | acc
deriving DecidableEq, Repr

/-- The parameters of R8, but for `IMAGE_LEN` and `RESET_DRAW`. -/
structure Params where
  /-- `UNIMPL_MODE`. -/
  unimplMode : UnimplMode
  /-- `UNIMPL_TSTATES`, OPEN: the cost of a skipped opcode 0xC0-0xFF, read in SKIP mode only. -/
  unimplTStates : Nat
  /-- `HALT_SUSPENDS`. -/
  haltSuspends : Bool
  /-- `F35_SRC`. -/
  f35Src : F35Src
  /-- `TSTATE`, as its differences from the default table of R267: an entry (opcode, taken, cost) replaces the
  default cost of that opcode with that branch outcome (false for an opcode that is no conditional branch). -/
  tstates : List (Byte × Bool × Nat)
  /-- `UNREC_TEXT`. -/
  unrecText : String
deriving DecidableEq, Repr

/-- The default values of R8. `UNIMPL_TSTATES` is OPEN there: its 0 is a DESIGN CHOICE (log 4) that no statement
rests on, and the default mode REFUSE never reads it. -/
def Params.default : Params where
  unimplMode := .refuse
  unimplTStates := 0
  haltSuspends := true
  f35Src := .result
  tstates := []
  unrecText := "UNRECOGNIZED"

end Sys2Proof
end

