-- ==== Sys2Proof/Machine/State.lean ====
section
/-! DEFINITION. The state of one core as plain data (10_state.md), its reset (R40, R260), and the reasons a step can
stop (R241, R242). The eight-bit registers are the one store; the pairs are computed views (R22, R23). -/

namespace Sys2Proof.Machine

/-- The memory M (R38, R51): `size` is the extent L, and `cells` lists, addresses strictly rising, the bytes within
the extent that differ from `Memory.unlisted`. -/
structure Memory where
  size  : Nat
  cells : List Host.Cell
deriving DecidableEq, Repr

/-- What an address within the extent that `cells` does not list reads as. An image gives every byte of its extent
(R261), so this is how a zero byte of the image is written; see log 10 and 11. -/
def Memory.unlisted : Byte := 0x00

/-- The state tuple of 10_state.md. -/
structure State where
  /-- The accumulator A and the flags register F (R20, R24). -/
  a : Byte
  f : Byte
  /-- The other primary registers (R20). -/
  b : Byte
  c : Byte
  d : Byte
  e : Byte
  h : Byte
  l : Byte
  /-- The shadow set A', F' and B' to L' (R21). -/
  a' : Byte
  f' : Byte
  b' : Byte
  c' : Byte
  d' : Byte
  e' : Byte
  h' : Byte
  l' : Byte
  /-- Program counter (R30). -/
  pc : Word
  /-- Stack pointer (R31). -/
  sp : Word
  /-- Index registers (R32). -/
  ix : Word
  iy : Word
  /-- Interrupt base (R33). -/
  i : Byte
  /-- Refresh counter, 7 bits (R34). -/
  r : BitVec 7
  /-- T-state counter (R35). -/
  t : Nat
  /-- The suspended state of HALT (R36). -/
  halted : Bool
  /-- Memory (R38). -/
  mem : Memory
  /-- The model's own field: the parameters of R8 (log 2). No step writes it. -/
  params : Params
deriving DecidableEq, Repr

/-- Which access an address outside the extent was used for (R52, R241). -/
inductive AccessKind where
  | fetch
  | read
  | write
deriving DecidableEq, Repr

/-- Why a step stops with a fault. -/
inductive Fault where
  /-- `MemFault(addr, kind)` (R241): raised by the instruction fetch and by every data read and write at an address
  outside the extent. Safe: the spec gives the access no effect, and nothing of the step is kept (R245). -/
  | memFault (addr : Word) (kind : AccessKind)
deriving DecidableEq, Repr

/-- Why a step, or the construction of the machine, is refused. -/
inductive Refusal where
  /-- An instruction the model gives no meaning yet: no arm of `exec` raises it. Safe. -/
  | notModelled (mnemonic : String)
  /-- `refuse Unimplemented(op)` (R139, R242): raised by the opcodes 0xC0-0xFF when `UNIMPL_MODE = REFUSE`. Safe. -/
  | unimplemented (op : Byte)
  /-- `construct` was given an image longer than 65536 bytes (R261). Raised by `construct` only. Safe. -/
  | imageTooLong (length : Nat)
deriving DecidableEq, Repr

/-- What a shared operation or a meaning answers: a value or next state, a fault, or a refusal (R13). -/
abbrev Result (α : Type) := Host.Outcome α Fault Refusal

/-- `RESET_DRAW` (R8, R40): one independent value for each register whose reset value is a draw. -/
structure ResetDraw where
  a : Byte
  b : Byte
  c : Byte
  d : Byte
  e : Byte
  h : Byte
  l : Byte
  a' : Byte
  b' : Byte
  c' : Byte
  d' : Byte
  e' : Byte
  h' : Byte
  l' : Byte
  sp : Word
  ix : Word
  iy : Word
  i : Byte
deriving DecidableEq, Repr

/-- The draws of `State.reset`: every drawn register 0 (DESIGN CHOICE, log 9). -/
def ResetDraw.zero : ResetDraw where
  a := 0
  b := 0
  c := 0
  d := 0
  e := 0
  h := 0
  l := 0
  a' := 0
  b' := 0
  c' := 0
  d' := 0
  e' := 0
  h' := 0
  l' := 0
  sp := 0
  ix := 0
  iy := 0
  i := 0

/-- The reset procedure (R40, R260): PC, R, F, F' and T are 0, the core is not halted, every other register takes its
draw, and memory is not touched. -/
def State.afterReset (p : Params) (draw : ResetDraw) (m : Memory) : State where
  a := draw.a
  f := 0x00
  b := draw.b
  c := draw.c
  d := draw.d
  e := draw.e
  h := draw.h
  l := draw.l
  a' := draw.a'
  f' := 0x00
  b' := draw.b'
  c' := draw.c'
  d' := draw.d'
  e' := draw.e'
  h' := draw.h'
  l' := draw.l'
  pc := 0x0000
  sp := draw.sp
  ix := draw.ix
  iy := draw.iy
  i := draw.i
  r := 0
  t := 0
  halted := false
  mem := m
  params := p

/-- The memory of `State.reset`: nothing listed, the whole address space backed (DESIGN CHOICE, log 10). -/
def Memory.blank : Memory where
  size := 65536
  cells := []

/-- The machine right after reset, with the default parameters, zero draws (log 9) and a blank memory (log 10). A
program comes in through `construct` or `withFetchWord` (log 12). -/
def State.reset : State :=
  State.afterReset Params.default ResetDraw.zero Memory.blank

end Sys2Proof.Machine
end

