-- ==== Sys2Proof/Machine/Timing.lean ====
section
/-! DEFINITION. T-state costs (R137, R267). -/

namespace Sys2Proof

/-- The default `TSTATE` table of R267, row by row. An opcode 0xC0-0xFF has no entry there (its cost in SKIP mode is
`UNIMPL_TSTATES`) and no rule asks this function for it. -/
def zilogTState (op : Byte) (taken : Bool) : Nat :=
  let n := op.toNat
  if n = 0x00 then 4
  else if n ∈ [0x01, 0x11, 0x21, 0x31] then 10
  else if n ∈ [0x02, 0x12, 0x0A, 0x1A] then 7
  else if n ∈ [0x03, 0x13, 0x23, 0x33, 0x0B, 0x1B, 0x2B, 0x3B] then 6
  else if n ∈ [0x04, 0x0C, 0x14, 0x1C, 0x24, 0x2C, 0x3C, 0x05, 0x0D, 0x15, 0x1D, 0x25, 0x2D, 0x3D] then 4
  else if n ∈ [0x34, 0x35] then 11
  else if n ∈ [0x06, 0x0E, 0x16, 0x1E, 0x26, 0x2E, 0x3E] then 7
  else if n = 0x36 then 10
  else if n ∈ [0x07, 0x0F, 0x17, 0x1F, 0x27, 0x2F, 0x37, 0x3F] then 4
  else if n = 0x08 then 4
  else if n ∈ [0x09, 0x19, 0x29, 0x39] then 11
  else if n = 0x10 then (if taken then 13 else 8)
  else if n = 0x18 then 12
  else if n ∈ [0x20, 0x28, 0x30, 0x38] then (if taken then 12 else 7)
  else if n ∈ [0x22, 0x2A] then 16
  else if n ∈ [0x32, 0x3A] then 13
  else if n = 0x76 then 4
  else if n < 0x80 then (if n % 8 = 6 ∨ n / 8 % 8 = 6 then 7 else 4)
  else if n % 8 = 6 then 7
  else 4

/-- `TSTATE(op, taken)` (R137): the parameter's entry, else the default table's. -/
def Params.tstate (p : Params) (op : Byte) (taken : Bool) : Nat :=
  match p.tstates.find? (fun e => e.1 == op && e.2.1 == taken) with
  | some e => e.2.2
  | none => zilogTState op taken

end Sys2Proof
end

