-- ==== Sys2Proof/Machine/Ops.lean ====
section
/-! DEFINITION. The shared operations: sequencing of results, memory, the instruction-stream reads and the epilogue.

The spec gives the machine no exception, trap or interrupt entry and no return from one (R240, R246, R247), so there
is no operation that takes an exception: a step either completes or answers a fault or a refusal, of which nothing is
kept (R245). -/

namespace Sys2Proof.Machine

/-- Go on with `k` from a result that completed; a fault or a refusal ends the instruction (R135, R245). -/
def andThen {α β : Type} (x : Result α) (k : α → Result β) : Result β :=
  match x with
  | .next v => k v
  | .fault r => .fault r
  | .refused r => .refused r

/-- Write PC (R30). -/
def State.setPc (s : State) (v : Word) : State := { s with pc := v }

/-- Put another memory in place (R38). -/
def State.setMem (s : State) (m : Memory) : State := { s with mem := m }

/-! ### Memory -/

/-- The byte a cell list holds for an address. -/
def cellsGet : List Host.Cell → Nat → Byte
  | [], _ => Memory.unlisted
  | (k, w) :: rest, x => if k = x then w else cellsGet rest x

/-- Store a byte in a cell list, keeping addresses rising and unlisted bytes unlisted. -/
def cellsSet : List Host.Cell → Nat → Byte → List Host.Cell
  | [], x, v => if v = Memory.unlisted then [] else [(x, v)]
  | (k, w) :: rest, x, v =>
    if x < k then
      if v = Memory.unlisted then (k, w) :: rest else (x, v) :: (k, w) :: rest
    else if x = k then
      if v = Memory.unlisted then rest else (x, v) :: rest
    else
      (k, w) :: cellsSet rest x v

/-- `M[addr]`, or nothing when `addr >= L` (R51, R52). -/
def Memory.read (m : Memory) (addr : Nat) : Option Byte :=
  if addr < m.size then some (cellsGet m.cells addr) else none

/-- Memory with the byte at `addr` replaced, the extent as it was. -/
def Memory.set (m : Memory) (addr : Nat) (v : Byte) : Memory where
  size := m.size
  cells := cellsSet m.cells addr v

/-- `M[addr] <- v`, or nothing when `addr >= L` (R51, R52). -/
def Memory.write (m : Memory) (addr : Nat) (v : Byte) : Option Memory :=
  if addr < m.size then some (m.set addr v) else none

/-- Place a byte from outside the machine, extending the extent up to it. No step does this; it is the load of a
program (log 12, 13). -/
def Memory.load (m : Memory) (addr : Nat) (v : Byte) : Memory where
  size := max m.size (addr + 1)
  cells := cellsSet m.cells addr v

/-- Place bytes at `addr` and the addresses after it, mod 65536. -/
def placeBytes (m : Memory) (addr : Word) : List Byte → Memory
  | [] => m
  | v :: rest => placeBytes (m.load addr.toNat v) (addr + 1) rest

/-- The cells of an image whose first byte stands at `base` (R51: the image is mapped from address 0). -/
def imageCells : List Byte → Nat → List Host.Cell
  | [], _ => []
  | v :: rest, base =>
    if v = Memory.unlisted then imageCells rest (base + 1) else (base, v) :: imageCells rest (base + 1)

/-- The memory an image gives: its bytes from address 0, its length the extent (R51, R261). -/
def Memory.ofImage (bytes : List Byte) : Memory where
  size := bytes.length
  cells := imageCells bytes 0

/-- The cells' addresses lie at or above `lo`, rise strictly, stay below `size`, and no cell lists an unlisted byte. -/
def cellsWf (size : Nat) : List Host.Cell → Nat → Bool
  | [], _ => true
  | (k, w) :: rest, lo => decide (lo ≤ k) && decide (k < size) && decide (w ≠ Memory.unlisted) && cellsWf size rest (k + 1)

/-- The canonical form of memory: an extent of at most 65536 bytes (R51), addresses strictly rising and within it, and
no entry equal to what an unlisted address reads as. -/
def Memory.wf (m : Memory) : Bool :=
  decide (m.size ≤ 65536) && cellsWf m.size m.cells 0

/-- `MemRead(addr, 1)` (R52). -/
def memRead (s : State) (addr : Word) : Result Byte :=
  match s.mem.read addr.toNat with
  | some v => .next v
  | none => .fault (.memFault addr .read)

/-- `MemWrite(addr, 1, v)` (R52). -/
def memWrite (s : State) (addr : Word) (v : Byte) : Result State :=
  match s.mem.write addr.toNat v with
  | some m => .next (s.setMem m)
  | none => .fault (.memFault addr .write)

/-- `Read16(addr)`: little-endian, the second address mod 65536 (R53). -/
def read16 (s : State) (addr : Word) : Result Word :=
  andThen (memRead s addr) fun lo =>
  andThen (memRead s (addr + 1)) fun hi =>
  .next (cat hi lo)

/-- `Write16(addr, v)`: the low byte, then the high byte at the next address mod 65536 (R53). -/
def write16 (s : State) (addr v : Word) : Result State :=
  andThen (memWrite s addr (loByte v)) fun s1 =>
  memWrite s1 (addr + 1) (hiByte v)

/-! ### The instruction stream -/

/-- `fetch8()` (R132): the byte at PC, PC moving past it mod 65536 (R30). -/
def fetch8 (s : State) : Result (Byte × State) :=
  match s.mem.read s.pc.toNat with
  | some v => .next (v, s.setPc (s.pc + 1))
  | none => .fault (.memFault s.pc .fetch)

/-- `fetch16()` (R133): a little-endian word operand. -/
def fetch16 (s : State) : Result (Word × State) :=
  andThen (fetch8 s) fun lo =>
  andThen (fetch8 lo.2) fun hi =>
  .next (cat hi.1 lo.1, hi.2)

/-- The instruction a step fetches at PC, with the state whose PC is past it: the opcode, then the operand bytes the
opcode asks for (R64, R131, R135). An opcode 0xC0-0xFF asks for none (R139). -/
def fetchInstr (s : State) : Result (Instr × State) :=
  andThen (fetch8 s) fun op =>
  match row op.1 with
  | .op i => .next (i, op.2)
  | .opN mk => andThen (fetch8 op.2) fun n => .next (mk n.1, n.2)
  | .opD mk => andThen (fetch8 op.2) fun d => .next (mk (dispOfByte d.1), d.2)
  | .opNn mk => andThen (fetch16 op.2) fun nn => .next (mk nn.1, nn.2)

/-! ### The epilogue -/

/-- The epilogue of every executed instruction (R137, R138): T grows by the opcode's cost, R by one mod 128. -/
def epilogue (op : Byte) (taken : Bool) (s : State) : State :=
  { s with t := s.t + s.params.tstate op taken, r := s.r + 1 }

end Sys2Proof.Machine
end

