-- ==== Sys2Proof/Machine/Operands.lean ====
section
/-! DEFINITION. The operand selectors r8, rp and cc (R27, R28, R29), the pair views (R22), and reading and writing an
8-bit operand that may be the memory byte at HL. -/

namespace Sys2Proof.Machine

/-- The register operands of r8 (R27). -/
inductive Reg8 where
  | b | c | d | e | h | l | a
deriving DecidableEq, Repr

/-- The operands of r8 (R27): a register, or index 6, the memory byte at HL. -/
inductive Operand8 where
  | reg (r : Reg8)
  | memHl
deriving DecidableEq, Repr

/-- The register pairs of rp (R28). -/
inductive Pair where
  | bc | de | hl | sp
deriving DecidableEq, Repr

/-- The conditions of JR cc (R29). -/
inductive Cond where
  | nz | z | nc | c
deriving DecidableEq, Repr

/-- The 3-bit index of a register operand (R27). -/
def Reg8.code : Reg8 → BitVec 3
  | .b => 0
  | .c => 1
  | .d => 2
  | .e => 3
  | .h => 4
  | .l => 5
  | .a => 7

/-- The 3-bit index of an operand (R27): 6 is the memory byte at HL. -/
def Operand8.code : Operand8 → BitVec 3
  | .reg r => r.code
  | .memHl => 6

/-- The 2-bit index of a pair (R28). -/
def Pair.code : Pair → BitVec 2
  | .bc => 0
  | .de => 1
  | .hl => 2
  | .sp => 3

/-- The index `y - 4` of a condition (R29). -/
def Cond.code : Cond → BitVec 2
  | .nz => 0
  | .z => 1
  | .nc => 2
  | .c => 3

/-! ### Pair views (R22) -/

def State.af (s : State) : Word := cat s.a s.f
def State.bc (s : State) : Word := cat s.b s.c
def State.de (s : State) : Word := cat s.d s.e
def State.hl (s : State) : Word := cat s.h s.l
def State.af' (s : State) : Word := cat s.a' s.f'
def State.bc' (s : State) : Word := cat s.b' s.c'
def State.de' (s : State) : Word := cat s.d' s.e'
def State.hl' (s : State) : Word := cat s.h' s.l'

/-- Read a register operand (R27). -/
def State.reg8 (s : State) : Reg8 → Byte
  | .b => s.b
  | .c => s.c
  | .d => s.d
  | .e => s.e
  | .h => s.h
  | .l => s.l
  | .a => s.a

/-- Write a register operand (R27). -/
def State.setReg8 (s : State) (r : Reg8) (v : Byte) : State :=
  match r with
  | .b => { s with b := v }
  | .c => { s with c := v }
  | .d => { s with d := v }
  | .e => { s with e := v }
  | .h => { s with h := v }
  | .l => { s with l := v }
  | .a => { s with a := v }

/-- Read `rp[p]` (R28). -/
def State.pair (s : State) : Pair → Word
  | .bc => s.bc
  | .de => s.de
  | .hl => s.hl
  | .sp => s.sp

/-- Write `rp[p]` (R22, R28): a pair is written as its two halves. -/
def State.setPair (s : State) (p : Pair) (v : Word) : State :=
  match p with
  | .bc => { s with b := hiByte v, c := loByte v }
  | .de => { s with d := hiByte v, e := loByte v }
  | .hl => { s with h := hiByte v, l := loByte v }
  | .sp => { s with sp := v }

/-- Read `r8[i]` (R27): a register, or `MemRead(HL, 1)`. -/
def readOperand (o : Operand8) (s : State) : Result Byte :=
  match o with
  | .reg r => .next (s.reg8 r)
  | .memHl => memRead s s.hl

/-- Write `r8[i] <- v` (R27): a register, or `MemWrite(HL, 1, v)`. -/
def writeOperand (o : Operand8) (v : Byte) (s : State) : Result State :=
  match o with
  | .reg r => .next (s.setReg8 r v)
  | .memHl => memWrite s s.hl v

end Sys2Proof.Machine
end

