-- ==== Sys2Proof/Machine/Flags.lean ====
section
/-! DEFINITION. The flags register (R24, R29) and the ALU and flag engine (R100-R116): pure functions on mathematical
integers, each of which answers its result and the flags it assigns; a flag it does not assign keeps its value. -/

namespace Sys2Proof.Machine

/-- The eight flag bits of F (R24, R25). -/
structure Flags where
  s  : Bool
  z  : Bool
  f5 : Bool
  h  : Bool
  f3 : Bool
  pv : Bool
  n  : Bool
  c  : Bool
deriving DecidableEq, Repr

/-- The flag bits of a flags byte (R24). -/
def Flags.ofByte (f : Byte) : Flags where
  s  := f.getLsbD 7
  z  := f.getLsbD 6
  f5 := f.getLsbD 5
  h  := f.getLsbD 4
  f3 := f.getLsbD 3
  pv := f.getLsbD 2
  n  := f.getLsbD 1
  c  := f.getLsbD 0

/-- The flags byte of eight flag bits (R24). -/
def Flags.toByte (x : Flags) : Byte :=
  BitVec.ofBool x.s ++ BitVec.ofBool x.z ++ BitVec.ofBool x.f5 ++ BitVec.ofBool x.h ++
    BitVec.ofBool x.f3 ++ BitVec.ofBool x.pv ++ BitVec.ofBool x.n ++ BitVec.ofBool x.c

/-- The flags of the state (R24). -/
def State.flags (s : State) : Flags := Flags.ofByte s.f

/-- Write all eight flags (R24). -/
def State.withFlags (s : State) (x : Flags) : State := { s with f := x.toByte }

/-- The condition `cc[y-4]` (R29). -/
def State.cond (s : State) : Cond → Bool
  | .nz => !s.flags.z
  | .z => s.flags.z
  | .nc => !s.flags.c
  | .c => s.flags.c

/-- `F35(x)` (R14): F5 and F3 from bits 5 and 3 of `x`. -/
def Flags.f35 (fl : Flags) (x : Byte) : Flags := { fl with f5 := x.getLsbD 5, f3 := x.getLsbD 3 }

/-- S and Z from an 8-bit result (R103). -/
def Flags.signZero (fl : Flags) (r : Byte) : Flags := { fl with s := r.getLsbD 7, z := r == 0 }

/-- The byte that INC, DEC and CP take F5 and F3 from (R102): the 8-bit result, or A after the instruction. -/
def State.f35Source (s : State) (result : Byte) : Byte :=
  match s.params.f35Src with
  | .result => result
  | .acc => s.a

/-- `parity(v)` (R101): set iff an even number of bits is set. -/
def parity (v : Byte) : Bool :=
  ((v.getLsbD 7).toNat + (v.getLsbD 6).toNat + (v.getLsbD 5).toNat + (v.getLsbD 4).toNat +
    (v.getLsbD 3).toNat + (v.getLsbD 2).toNat + (v.getLsbD 1).toNat + (v.getLsbD 0).toNat) % 2 == 0

/-- The answer of an 8-bit flag-engine function: its result and the flags after it. -/
structure AluOut where
  value : Byte
  flags : Flags
deriving DecidableEq, Repr

/-- Signed 8-bit overflow of an exact sum or difference (R104, R105). -/
def overflow8 (t : Int) : Bool := decide (t < -128 ∨ t > 127)

/-- `add8(a, b, cin)` (R104). Every flag is assigned. -/
def add8 (a b : Byte) (cin : Bool) : AluOut :=
  let r := BitVec.ofNat 8 (a.toNat + b.toNat + cin.toNat)
  { value := r
    flags :=
      { s  := r.getLsbD 7
        z  := r == 0
        f5 := r.getLsbD 5
        h  := decide (a.toNat % 16 + b.toNat % 16 + cin.toNat > 15)
        f3 := r.getLsbD 3
        pv := overflow8 (a.toInt + b.toInt + cin.toNat)
        n  := false
        c  := decide (a.toNat + b.toNat + cin.toNat > 255) } }

/-- `sub8(a, b, cin)` (R105). Every flag is assigned; CP takes F5 and F3 from elsewhere (R102). -/
def sub8 (a b : Byte) (cin : Bool) : AluOut :=
  let r := BitVec.ofInt 8 ((a.toNat : Int) - b.toNat - cin.toNat)
  { value := r
    flags :=
      { s  := r.getLsbD 7
        z  := r == 0
        f5 := r.getLsbD 5
        h  := decide (((a.toNat % 16 : Nat) : Int) - (b.toNat % 16 : Nat) - cin.toNat < 0)
        f3 := r.getLsbD 3
        pv := overflow8 (a.toInt - b.toInt - cin.toNat)
        n  := true
        c  := decide ((a.toNat : Int) - b.toNat - cin.toNat < 0) } }

/-- `inc8(v)` (R106): S, Z, H, PV and N; F5 and F3 are left to R102 and C is not assigned. -/
def inc8 (v : Byte) (fl : Flags) : AluOut :=
  let r := v + 1
  { value := r
    flags := { fl.signZero r with h := decide (v.toNat % 16 = 15), pv := r == 0x80, n := false } }

/-- `dec8(v)` (R107): S, Z, H, PV and N; F5 and F3 are left to R102 and C is not assigned. -/
def dec8 (v : Byte) (fl : Flags) : AluOut :=
  let r := v - 1
  { value := r
    flags := { fl.signZero r with h := decide (v.toNat % 16 = 0), pv := r == 0x7F, n := true } }

/-- The flags of a logic operation with result `r` (R108-R110), `h` being H. -/
def logicOut (r : Byte) (h : Bool) : AluOut where
  value := r
  flags :=
    { s  := r.getLsbD 7
      z  := r == 0
      f5 := r.getLsbD 5
      h  := h
      f3 := r.getLsbD 3
      pv := parity r
      n  := false
      c  := false }

/-- `and8(a, b)` (R108). -/
def and8 (a b : Byte) : AluOut := logicOut (a &&& b) true

/-- `xor8(a, b)` (R109). -/
def xor8 (a b : Byte) : AluOut := logicOut (a ^^^ b) false

/-- `or8(a, b)` (R110). -/
def or8 (a b : Byte) : AluOut := logicOut (a ||| b) false

/-- The answer of `add16`. -/
structure Add16Out where
  value : Word
  flags : Flags
deriving DecidableEq, Repr

/-- `add16(x, y)` (R111): C, H, N, F5 and F3; S, Z and PV are not assigned. -/
def add16 (x y : Word) (fl : Flags) : Add16Out :=
  let r := BitVec.ofNat 16 (x.toNat + y.toNat)
  { value := r
    flags :=
      { fl with
        c  := decide (x.toNat + y.toNat > 65535)
        h  := decide (x.toNat % 4096 + y.toNat % 4096 > 4095)
        n  := false
        f5 := r.getLsbD 13
        f3 := r.getLsbD 11 } }

/-- The flags of an accumulator rotate with result `r` and carry out `c` (R112-R115): S, Z and PV are not assigned. -/
def rotateOut (r : Byte) (c : Bool) (fl : Flags) : AluOut where
  value := r
  flags := { fl.f35 r with c := c, h := false, n := false }

/-- `rlc8(v)` (R112). -/
def rlc8 (v : Byte) (fl : Flags) : AluOut :=
  let c := v.getLsbD 7
  rotateOut (BitVec.ofNat 8 (2 * v.toNat % 256 + c.toNat)) c fl

/-- `rrc8(v)` (R113). -/
def rrc8 (v : Byte) (fl : Flags) : AluOut :=
  let c := v.getLsbD 0
  rotateOut (BitVec.ofNat 8 (v.toNat / 2 + 128 * c.toNat)) c fl

/-- `rl8(v, cin)` with cin = C (R114). -/
def rl8 (v : Byte) (fl : Flags) : AluOut :=
  rotateOut (BitVec.ofNat 8 (2 * v.toNat % 256 + fl.c.toNat)) (v.getLsbD 7) fl

/-- `rr8(v, cin)` with cin = C (R115). -/
def rr8 (v : Byte) (fl : Flags) : AluOut :=
  rotateOut (BitVec.ofNat 8 (v.toNat / 2 + 128 * fl.c.toNat)) (v.getLsbD 0) fl

/-- `daa(a, n, h, c)` (R116): C, H, PV, S, Z, F5 and F3; N is not assigned. -/
def daa (a : Byte) (fl : Flags) : AluOut :=
  let lo := a.toNat % 16
  let high := fl.c || decide (a.toNat > 0x99)
  let diff := (if fl.h || decide (lo > 9) then 0x06 else 0) + (if high then 0x60 else 0)
  let r : Byte := if fl.n then BitVec.ofInt 8 ((a.toNat : Int) - (diff : Nat)) else BitVec.ofNat 8 (a.toNat + diff)
  let h := if fl.n then fl.h && decide (lo < 6) else decide (lo > 9)
  { value := r
    flags := { (fl.signZero r).f35 r with c := high, h := h, pv := parity r } }

/-- CPL (R205): the complement of A; H = 1, N = 1, F5 and F3 from it, the others not assigned. -/
def cpl8 (a : Byte) (fl : Flags) : AluOut :=
  let r := a ^^^ 0xFF
  { value := r, flags := { fl.f35 r with h := true, n := true } }

/-- SCF (R206): C = 1, H = 0, N = 0, F5 and F3 from A. -/
def scf8 (a : Byte) (fl : Flags) : AluOut where
  value := a
  flags := { fl.f35 a with c := true, h := false, n := false }

/-- CCF (R207): H = old C, C = not old C, N = 0, F5 and F3 from A. -/
def ccf8 (a : Byte) (fl : Flags) : AluOut where
  value := a
  flags := { fl.f35 a with h := fl.c, c := !fl.c, n := false }

/-- The ALU operations that write A (R74), by their order there; CP writes no register and stands apart (R192). -/
inductive AluOp where
  | add | adc | sub | sbc | and | xor | or
deriving DecidableEq, Repr

/-- The `y` field of an ALU operation (R74). -/
def AluOp.code : AluOp → BitVec 3
  | .add => 0
  | .adc => 1
  | .sub => 2
  | .sbc => 3
  | .and => 4
  | .xor => 5
  | .or => 6

/-- The flag-engine function of an ALU operation on A, the operand and C (R185-R191). -/
def AluOp.apply (op : AluOp) (a v : Byte) (c : Bool) : AluOut :=
  match op with
  | .add => add8 a v false
  | .adc => add8 a v c
  | .sub => sub8 a v false
  | .sbc => sub8 a v c
  | .and => and8 a v
  | .xor => xor8 a v
  | .or => or8 a v

end Sys2Proof.Machine
end

