-- ==== Sys2Proof/Machine/Accumulator.lean ====
section
/-! DEFINITION. The accumulator group (45_accumulator.md): eight one-byte instructions that touch only A and F. Each meaning runs after the
fetch, with PC past the instruction, and ends with the epilogue. -/

namespace Sys2Proof.Machine

/-- Write A and the flags that a flag-engine function answers (R200-R207). -/
def accumulate (op : Byte) (out : AluOut) (s : State) : Result State :=
  .next (epilogue op false ((s.setReg8 .a out.value).withFlags out.flags))

/-! R200 -/

/-- `RLCA` (0x07, R200). -/
def execRlca (s : State) : Result State := accumulate 0x07 (rlc8 s.a s.flags) s

/-! R201 -/

/-- `RRCA` (0x0F, R201). -/
def execRrca (s : State) : Result State := accumulate 0x0F (rrc8 s.a s.flags) s

/-! R202 -/

/-- `RLA` (0x17, R202). -/
def execRla (s : State) : Result State := accumulate 0x17 (rl8 s.a s.flags) s

/-! R203 -/

/-- `RRA` (0x1F, R203). -/
def execRra (s : State) : Result State := accumulate 0x1F (rr8 s.a s.flags) s

/-! R204 -/

/-- `DAA` (0x27, R204). -/
def execDaa (s : State) : Result State := accumulate 0x27 (daa s.a s.flags) s

/-! R205 -/

/-- `CPL` (0x2F, R205). -/
def execCpl (s : State) : Result State := accumulate 0x2F (cpl8 s.a s.flags) s

/-! R206 -/

/-- `SCF` (0x37, R206). -/
def execScf (s : State) : Result State := accumulate 0x37 (scf8 s.a s.flags) s

/-! R207 -/

/-- `CCF` (0x3F, R207). -/
def execCcf (s : State) : Result State := accumulate 0x3F (ccf8 s.a s.flags) s

end Sys2Proof.Machine
end

