-- ==== Sys2Proof/Machine/Arith16.lean ====
section
/-! DEFINITION. The 16-bit arithmetic (43_arith16.md). Each meaning runs after the
fetch, with PC past the instruction, and ends with the epilogue. -/

namespace Sys2Proof.Machine

/-- INC rp (R170): no flag is written. -/
def incPair (op : Byte) (p : Pair) (s : State) : Result State :=
  .next (epilogue op false (s.setPair p (s.pair p + 1)))

/-- DEC rp (R171): no flag is written. -/
def decPair (op : Byte) (p : Pair) (s : State) : Result State :=
  .next (epilogue op false (s.setPair p (s.pair p - 1)))

/-- ADD HL,rp (R172): both operands are the values before the instruction. -/
def addHl (op : Byte) (p : Pair) (s : State) : Result State :=
  let out := add16 s.hl (s.pair p) s.flags
  .next (epilogue op false ((s.setPair .hl out.value).withFlags out.flags))

/-! R170 -/

/-- `INC BC` (0x03, R170). -/
def execIncBc (s : State) : Result State := incPair 0x03 .bc s

/-- `INC DE` (0x13, R170). -/
def execIncDe (s : State) : Result State := incPair 0x13 .de s

/-- `INC HL` (0x23, R170). -/
def execIncHl (s : State) : Result State := incPair 0x23 .hl s

/-- `INC SP` (0x33, R170). -/
def execIncSp (s : State) : Result State := incPair 0x33 .sp s

/-! R171 -/

/-- `DEC BC` (0x0B, R171). -/
def execDecBc (s : State) : Result State := decPair 0x0B .bc s

/-- `DEC DE` (0x1B, R171). -/
def execDecDe (s : State) : Result State := decPair 0x1B .de s

/-- `DEC HL` (0x2B, R171). -/
def execDecHl (s : State) : Result State := decPair 0x2B .hl s

/-- `DEC SP` (0x3B, R171). -/
def execDecSp (s : State) : Result State := decPair 0x3B .sp s

/-! R172 -/

/-- `ADD HL,BC` (0x09, R172). -/
def execAddHlBc (s : State) : Result State := addHl 0x09 .bc s

/-- `ADD HL,DE` (0x19, R172). -/
def execAddHlDe (s : State) : Result State := addHl 0x19 .de s

/-- `ADD HL,HL` (0x29, R172). -/
def execAddHlHl (s : State) : Result State := addHl 0x29 .hl s

/-- `ADD HL,SP` (0x39, R172). -/
def execAddHlSp (s : State) : Result State := addHl 0x39 .sp s

end Sys2Proof.Machine
end

