-- ==== Sys2Proof/Machine/Arith8.lean ====
section
/-! DEFINITION. The 8-bit arithmetic and logic (44_arith8.md). Each meaning runs after the
fetch, with PC past the instruction, and ends with the epilogue. -/

namespace Sys2Proof.Machine

/-- INC r and INC (HL) (R180, R181): F5 and F3 as R102 says, C preserved. -/
def incOperand (op : Byte) (o : Operand8) (s : State) : Result State :=
  andThen (readOperand o s) fun v =>
  let out := inc8 v s.flags
  andThen (writeOperand o out.value s) fun s1 =>
  .next (epilogue op false (s1.withFlags (out.flags.f35 (s1.f35Source out.value))))

/-- DEC r and DEC (HL) (R182, R183): F5 and F3 as R102 says, C preserved. -/
def decOperand (op : Byte) (o : Operand8) (s : State) : Result State :=
  andThen (readOperand o s) fun v =>
  let out := dec8 v s.flags
  andThen (writeOperand o out.value s) fun s1 =>
  .next (epilogue op false (s1.withFlags (out.flags.f35 (s1.f35Source out.value))))

/-- The ALU operations that write A (R184-R191). -/
def alu (op : Byte) (f : AluOp) (o : Operand8) (s : State) : Result State :=
  andThen (readOperand o s) fun v =>
  let out := f.apply s.a v s.flags.c
  .next (epilogue op false ((s.setReg8 .a out.value).withFlags out.flags))

/-- CP (R192): the flags of the subtraction, A unchanged, F5 and F3 as R102 says. -/
def compare (op : Byte) (o : Operand8) (s : State) : Result State :=
  andThen (readOperand o s) fun v =>
  let out := sub8 s.a v false
  .next (epilogue op false (s.withFlags (out.flags.f35 (s.f35Source out.value))))

/-! R180 -/

/-- `INC B` (0x04, R180). -/
def execIncB (s : State) : Result State := incOperand 0x04 (.reg .b) s

/-- `INC C` (0x0C, R180). -/
def execIncC (s : State) : Result State := incOperand 0x0C (.reg .c) s

/-- `INC D` (0x14, R180). -/
def execIncD (s : State) : Result State := incOperand 0x14 (.reg .d) s

/-- `INC E` (0x1C, R180). -/
def execIncE (s : State) : Result State := incOperand 0x1C (.reg .e) s

/-- `INC H` (0x24, R180). -/
def execIncH (s : State) : Result State := incOperand 0x24 (.reg .h) s

/-- `INC L` (0x2C, R180). -/
def execIncL (s : State) : Result State := incOperand 0x2C (.reg .l) s

/-- `INC A` (0x3C, R180). -/
def execIncA (s : State) : Result State := incOperand 0x3C (.reg .a) s

/-! R181 -/

/-- `INC (HL)` (0x34, R181). -/
def execIncMemHl (s : State) : Result State := incOperand 0x34 .memHl s

/-! R182 -/

/-- `DEC B` (0x05, R182). -/
def execDecB (s : State) : Result State := decOperand 0x05 (.reg .b) s

/-- `DEC C` (0x0D, R182). -/
def execDecC (s : State) : Result State := decOperand 0x0D (.reg .c) s

/-- `DEC D` (0x15, R182). -/
def execDecD (s : State) : Result State := decOperand 0x15 (.reg .d) s

/-- `DEC E` (0x1D, R182). -/
def execDecE (s : State) : Result State := decOperand 0x1D (.reg .e) s

/-- `DEC H` (0x25, R182). -/
def execDecH (s : State) : Result State := decOperand 0x25 (.reg .h) s

/-- `DEC L` (0x2D, R182). -/
def execDecL (s : State) : Result State := decOperand 0x2D (.reg .l) s

/-- `DEC A` (0x3D, R182). -/
def execDecA (s : State) : Result State := decOperand 0x3D (.reg .a) s

/-! R183 -/

/-- `DEC (HL)` (0x35, R183). -/
def execDecMemHl (s : State) : Result State := decOperand 0x35 .memHl s

/-! R185 -/

/-- `ADD A,B` (0x80, R185). -/
def execAddAB (s : State) : Result State := alu 0x80 .add (.reg .b) s

/-- `ADD A,C` (0x81, R185). -/
def execAddAC (s : State) : Result State := alu 0x81 .add (.reg .c) s

/-- `ADD A,D` (0x82, R185). -/
def execAddAD (s : State) : Result State := alu 0x82 .add (.reg .d) s

/-- `ADD A,E` (0x83, R185). -/
def execAddAE (s : State) : Result State := alu 0x83 .add (.reg .e) s

/-- `ADD A,H` (0x84, R185). -/
def execAddAH (s : State) : Result State := alu 0x84 .add (.reg .h) s

/-- `ADD A,L` (0x85, R185). -/
def execAddAL (s : State) : Result State := alu 0x85 .add (.reg .l) s

/-- `ADD A,(HL)` (0x86, R185). -/
def execAddAMemHl (s : State) : Result State := alu 0x86 .add .memHl s

/-- `ADD A,A` (0x87, R185). -/
def execAddAA (s : State) : Result State := alu 0x87 .add (.reg .a) s

/-! R186 -/

/-- `ADC A,B` (0x88, R186). -/
def execAdcAB (s : State) : Result State := alu 0x88 .adc (.reg .b) s

/-- `ADC A,C` (0x89, R186). -/
def execAdcAC (s : State) : Result State := alu 0x89 .adc (.reg .c) s

/-- `ADC A,D` (0x8A, R186). -/
def execAdcAD (s : State) : Result State := alu 0x8A .adc (.reg .d) s

/-- `ADC A,E` (0x8B, R186). -/
def execAdcAE (s : State) : Result State := alu 0x8B .adc (.reg .e) s

/-- `ADC A,H` (0x8C, R186). -/
def execAdcAH (s : State) : Result State := alu 0x8C .adc (.reg .h) s

/-- `ADC A,L` (0x8D, R186). -/
def execAdcAL (s : State) : Result State := alu 0x8D .adc (.reg .l) s

/-- `ADC A,(HL)` (0x8E, R186). -/
def execAdcAMemHl (s : State) : Result State := alu 0x8E .adc .memHl s

/-- `ADC A,A` (0x8F, R186). -/
def execAdcAA (s : State) : Result State := alu 0x8F .adc (.reg .a) s

/-! R187 -/

/-- `SUB B` (0x90, R187). -/
def execSubB (s : State) : Result State := alu 0x90 .sub (.reg .b) s

/-- `SUB C` (0x91, R187). -/
def execSubC (s : State) : Result State := alu 0x91 .sub (.reg .c) s

/-- `SUB D` (0x92, R187). -/
def execSubD (s : State) : Result State := alu 0x92 .sub (.reg .d) s

/-- `SUB E` (0x93, R187). -/
def execSubE (s : State) : Result State := alu 0x93 .sub (.reg .e) s

/-- `SUB H` (0x94, R187). -/
def execSubH (s : State) : Result State := alu 0x94 .sub (.reg .h) s

/-- `SUB L` (0x95, R187). -/
def execSubL (s : State) : Result State := alu 0x95 .sub (.reg .l) s

/-- `SUB (HL)` (0x96, R187). -/
def execSubMemHl (s : State) : Result State := alu 0x96 .sub .memHl s

/-- `SUB A` (0x97, R187). -/
def execSubA (s : State) : Result State := alu 0x97 .sub (.reg .a) s

/-! R188 -/

/-- `SBC A,B` (0x98, R188). -/
def execSbcAB (s : State) : Result State := alu 0x98 .sbc (.reg .b) s

/-- `SBC A,C` (0x99, R188). -/
def execSbcAC (s : State) : Result State := alu 0x99 .sbc (.reg .c) s

/-- `SBC A,D` (0x9A, R188). -/
def execSbcAD (s : State) : Result State := alu 0x9A .sbc (.reg .d) s

/-- `SBC A,E` (0x9B, R188). -/
def execSbcAE (s : State) : Result State := alu 0x9B .sbc (.reg .e) s

/-- `SBC A,H` (0x9C, R188). -/
def execSbcAH (s : State) : Result State := alu 0x9C .sbc (.reg .h) s

/-- `SBC A,L` (0x9D, R188). -/
def execSbcAL (s : State) : Result State := alu 0x9D .sbc (.reg .l) s

/-- `SBC A,(HL)` (0x9E, R188). -/
def execSbcAMemHl (s : State) : Result State := alu 0x9E .sbc .memHl s

/-- `SBC A,A` (0x9F, R188). -/
def execSbcAA (s : State) : Result State := alu 0x9F .sbc (.reg .a) s

/-! R189 -/

/-- `AND B` (0xA0, R189). -/
def execAndB (s : State) : Result State := alu 0xA0 .and (.reg .b) s

/-- `AND C` (0xA1, R189). -/
def execAndC (s : State) : Result State := alu 0xA1 .and (.reg .c) s

/-- `AND D` (0xA2, R189). -/
def execAndD (s : State) : Result State := alu 0xA2 .and (.reg .d) s

/-- `AND E` (0xA3, R189). -/
def execAndE (s : State) : Result State := alu 0xA3 .and (.reg .e) s

/-- `AND H` (0xA4, R189). -/
def execAndH (s : State) : Result State := alu 0xA4 .and (.reg .h) s

/-- `AND L` (0xA5, R189). -/
def execAndL (s : State) : Result State := alu 0xA5 .and (.reg .l) s

/-- `AND (HL)` (0xA6, R189). -/
def execAndMemHl (s : State) : Result State := alu 0xA6 .and .memHl s

/-- `AND A` (0xA7, R189). -/
def execAndA (s : State) : Result State := alu 0xA7 .and (.reg .a) s

/-! R190 -/

/-- `XOR B` (0xA8, R190). -/
def execXorB (s : State) : Result State := alu 0xA8 .xor (.reg .b) s

/-- `XOR C` (0xA9, R190). -/
def execXorC (s : State) : Result State := alu 0xA9 .xor (.reg .c) s

/-- `XOR D` (0xAA, R190). -/
def execXorD (s : State) : Result State := alu 0xAA .xor (.reg .d) s

/-- `XOR E` (0xAB, R190). -/
def execXorE (s : State) : Result State := alu 0xAB .xor (.reg .e) s

/-- `XOR H` (0xAC, R190). -/
def execXorH (s : State) : Result State := alu 0xAC .xor (.reg .h) s

/-- `XOR L` (0xAD, R190). -/
def execXorL (s : State) : Result State := alu 0xAD .xor (.reg .l) s

/-- `XOR (HL)` (0xAE, R190). -/
def execXorMemHl (s : State) : Result State := alu 0xAE .xor .memHl s

/-- `XOR A` (0xAF, R190). -/
def execXorA (s : State) : Result State := alu 0xAF .xor (.reg .a) s

/-! R191 -/

/-- `OR B` (0xB0, R191). -/
def execOrB (s : State) : Result State := alu 0xB0 .or (.reg .b) s

/-- `OR C` (0xB1, R191). -/
def execOrC (s : State) : Result State := alu 0xB1 .or (.reg .c) s

/-- `OR D` (0xB2, R191). -/
def execOrD (s : State) : Result State := alu 0xB2 .or (.reg .d) s

/-- `OR E` (0xB3, R191). -/
def execOrE (s : State) : Result State := alu 0xB3 .or (.reg .e) s

/-- `OR H` (0xB4, R191). -/
def execOrH (s : State) : Result State := alu 0xB4 .or (.reg .h) s

/-- `OR L` (0xB5, R191). -/
def execOrL (s : State) : Result State := alu 0xB5 .or (.reg .l) s

/-- `OR (HL)` (0xB6, R191). -/
def execOrMemHl (s : State) : Result State := alu 0xB6 .or .memHl s

/-- `OR A` (0xB7, R191). -/
def execOrA (s : State) : Result State := alu 0xB7 .or (.reg .a) s

/-! R192 -/

/-- `CP B` (0xB8, R192). -/
def execCpB (s : State) : Result State := compare 0xB8 (.reg .b) s

/-- `CP C` (0xB9, R192). -/
def execCpC (s : State) : Result State := compare 0xB9 (.reg .c) s

/-- `CP D` (0xBA, R192). -/
def execCpD (s : State) : Result State := compare 0xBA (.reg .d) s

/-- `CP E` (0xBB, R192). -/
def execCpE (s : State) : Result State := compare 0xBB (.reg .e) s

/-- `CP H` (0xBC, R192). -/
def execCpH (s : State) : Result State := compare 0xBC (.reg .h) s

/-- `CP L` (0xBD, R192). -/
def execCpL (s : State) : Result State := compare 0xBD (.reg .l) s

/-- `CP (HL)` (0xBE, R192). -/
def execCpMemHl (s : State) : Result State := compare 0xBE .memHl s

/-- `CP A` (0xBF, R192). -/
def execCpA (s : State) : Result State := compare 0xBF (.reg .a) s

end Sys2Proof.Machine
end

