-- ==== Sys2Proof/Machine/Control.lean ====
section
/-! DEFINITION. NOP, the relative jumps and HALT (46_control.md). None writes a flag. Each meaning runs after the
fetch, with PC past the instruction, and ends with the epilogue. -/

namespace Sys2Proof.Machine

/-- The relative target (R211): PC, which is past the displacement byte, plus the displacement, mod 65536. -/
def relativeTarget (pc : Word) (d : Int) : Word := pc + BitVec.ofInt 16 d

/-- NOP (R210): the epilogue alone. -/
def noOperation (op : Byte) (s : State) : Result State := .next (epilogue op false s)

/-- DJNZ d (R212). -/
def decrementJump (op : Byte) (d : Int) (s : State) : Result State :=
  let s1 := s.setReg8 .b (s.b - 1)
  if s1.b ≠ 0 then .next (epilogue op true (s1.setPc (relativeTarget s.pc d)))
  else .next (epilogue op false s1)

/-- JR d (R213). -/
def jumpRelative (op : Byte) (d : Int) (s : State) : Result State :=
  .next (epilogue op false (s.setPc (relativeTarget s.pc d)))

/-- JR cc,d (R214). -/
def jumpConditional (op : Byte) (cc : Cond) (d : Int) (s : State) : Result State :=
  if s.cond cc then .next (epilogue op true (s.setPc (relativeTarget s.pc d)))
  else .next (epilogue op false s)

/-- HALT (R215): it suspends the core when `HALT_SUSPENDS`, and else is a no-op. -/
def suspend (op : Byte) (s : State) : Result State :=
  .next (epilogue op false (if s.params.haltSuspends then { s with halted := true } else s))

/-! R210 -/

/-- `NOP` (0x00, R210). -/
def execNop (s : State) : Result State := noOperation 0x00 s

/-! R212 -/

/-- `DJNZ d` (0x10, R212). -/
def execDjnz (d : Int) (s : State) : Result State := decrementJump 0x10 d s

/-! R213 -/

/-- `JR d` (0x18, R213). -/
def execJr (d : Int) (s : State) : Result State := jumpRelative 0x18 d s

/-! R214 -/

/-- `JR NZ,d` (0x20, R214). -/
def execJrNz (d : Int) (s : State) : Result State := jumpConditional 0x20 .nz d s

/-- `JR Z,d` (0x28, R214). -/
def execJrZ (d : Int) (s : State) : Result State := jumpConditional 0x28 .z d s

/-- `JR NC,d` (0x30, R214). -/
def execJrNc (d : Int) (s : State) : Result State := jumpConditional 0x30 .nc d s

/-- `JR C,d` (0x38, R214). -/
def execJrC (d : Int) (s : State) : Result State := jumpConditional 0x38 .c d s

/-! R215 -/

/-- `HALT` (0x76, R215). -/
def execHalt (s : State) : Result State := suspend 0x76 s

end Sys2Proof.Machine
end

