-- ==== Sys2Proof/Machine/Loads.lean ====
section
/-! DEFINITION. The loads, the stores and EX AF,AF' (42_loads_exchange.md). None writes a flag but EX AF,AF', which moves F whole. Each meaning runs after the
fetch, with PC past the instruction, and ends with the epilogue. -/

namespace Sys2Proof.Machine

/-- LD rp,nn (R150). -/
def loadPair (op : Byte) (p : Pair) (nn : Word) (s : State) : Result State :=
  .next (epilogue op false (s.setPair p nn))

/-- The stores of A: LD (BC),A, LD (DE),A and LD (nn),A (R151, R152, R162). -/
def storeA (op : Byte) (addr : Word) (s : State) : Result State :=
  andThen (memWrite s addr s.a) fun s1 => .next (epilogue op false s1)

/-- The loads of A: LD A,(BC), LD A,(DE) and LD A,(nn) (R153, R154, R163). -/
def loadA (op : Byte) (addr : Word) (s : State) : Result State :=
  andThen (memRead s addr) fun v => .next (epilogue op false (s.setReg8 .a v))

/-- LD r,n and LD (HL),n (R155, R156). -/
def loadImmediate (op : Byte) (dst : Operand8) (n : Byte) (s : State) : Result State :=
  andThen (writeOperand dst n s) fun s1 => .next (epilogue op false s1)

/-- The move matrix: LD r,r', LD r,(HL) and LD (HL),r (R157-R159). The source is read before the destination is
written (R136), so HL is the old HL. -/
def move8 (op : Byte) (dst src : Operand8) (s : State) : Result State :=
  andThen (readOperand src s) fun v =>
  andThen (writeOperand dst v s) fun s1 =>
  .next (epilogue op false s1)

/-- LD (nn),HL (R160). -/
def storeHl (op : Byte) (nn : Word) (s : State) : Result State :=
  andThen (write16 s nn s.hl) fun s1 => .next (epilogue op false s1)

/-- LD HL,(nn) (R161): both bytes are read before either half is written. -/
def loadHl (op : Byte) (nn : Word) (s : State) : Result State :=
  andThen (read16 s nn) fun v => .next (epilogue op false (s.setPair .hl v))

/-- EX AF,AF' (R164). -/
def exchangeAf (op : Byte) (s : State) : Result State :=
  .next (epilogue op false { s with a := s.a', f := s.f', a' := s.a, f' := s.f })

/-! R150 -/

/-- `LD BC,nn` (0x01, R150). -/
def execLdBcNn (nn : Word) (s : State) : Result State := loadPair 0x01 .bc nn s

/-- `LD DE,nn` (0x11, R150). -/
def execLdDeNn (nn : Word) (s : State) : Result State := loadPair 0x11 .de nn s

/-- `LD HL,nn` (0x21, R150). -/
def execLdHlNn (nn : Word) (s : State) : Result State := loadPair 0x21 .hl nn s

/-- `LD SP,nn` (0x31, R150). -/
def execLdSpNn (nn : Word) (s : State) : Result State := loadPair 0x31 .sp nn s

/-! R151 -/

/-- `LD (BC),A` (0x02, R151). -/
def execLdMemBcA (s : State) : Result State := storeA 0x02 s.bc s

/-! R152 -/

/-- `LD (DE),A` (0x12, R152). -/
def execLdMemDeA (s : State) : Result State := storeA 0x12 s.de s

/-! R153 -/

/-- `LD A,(BC)` (0x0A, R153). -/
def execLdAMemBc (s : State) : Result State := loadA 0x0A s.bc s

/-! R154 -/

/-- `LD A,(DE)` (0x1A, R154). -/
def execLdAMemDe (s : State) : Result State := loadA 0x1A s.de s

/-! R155 -/

/-- `LD B,n` (0x06, R155). -/
def execLdBN (n : Byte) (s : State) : Result State := loadImmediate 0x06 (.reg .b) n s

/-- `LD C,n` (0x0E, R155). -/
def execLdCN (n : Byte) (s : State) : Result State := loadImmediate 0x0E (.reg .c) n s

/-- `LD D,n` (0x16, R155). -/
def execLdDN (n : Byte) (s : State) : Result State := loadImmediate 0x16 (.reg .d) n s

/-- `LD E,n` (0x1E, R155). -/
def execLdEN (n : Byte) (s : State) : Result State := loadImmediate 0x1E (.reg .e) n s

/-- `LD H,n` (0x26, R155). -/
def execLdHN (n : Byte) (s : State) : Result State := loadImmediate 0x26 (.reg .h) n s

/-- `LD L,n` (0x2E, R155). -/
def execLdLN (n : Byte) (s : State) : Result State := loadImmediate 0x2E (.reg .l) n s

/-- `LD A,n` (0x3E, R155). -/
def execLdAN (n : Byte) (s : State) : Result State := loadImmediate 0x3E (.reg .a) n s

/-! R156 -/

/-- `LD (HL),n` (0x36, R156). -/
def execLdMemHlN (n : Byte) (s : State) : Result State := loadImmediate 0x36 .memHl n s

/-! R157 -/

/-- `LD B,B` (0x40, R157). -/
def execLdBB (s : State) : Result State := move8 0x40 (.reg .b) (.reg .b) s

/-- `LD B,C` (0x41, R157). -/
def execLdBC (s : State) : Result State := move8 0x41 (.reg .b) (.reg .c) s

/-- `LD B,D` (0x42, R157). -/
def execLdBD (s : State) : Result State := move8 0x42 (.reg .b) (.reg .d) s

/-- `LD B,E` (0x43, R157). -/
def execLdBE (s : State) : Result State := move8 0x43 (.reg .b) (.reg .e) s

/-- `LD B,H` (0x44, R157). -/
def execLdBH (s : State) : Result State := move8 0x44 (.reg .b) (.reg .h) s

/-- `LD B,L` (0x45, R157). -/
def execLdBL (s : State) : Result State := move8 0x45 (.reg .b) (.reg .l) s

/-- `LD B,A` (0x47, R157). -/
def execLdBA (s : State) : Result State := move8 0x47 (.reg .b) (.reg .a) s

/-- `LD C,B` (0x48, R157). -/
def execLdCB (s : State) : Result State := move8 0x48 (.reg .c) (.reg .b) s

/-- `LD C,C` (0x49, R157). -/
def execLdCC (s : State) : Result State := move8 0x49 (.reg .c) (.reg .c) s

/-- `LD C,D` (0x4A, R157). -/
def execLdCD (s : State) : Result State := move8 0x4A (.reg .c) (.reg .d) s

/-- `LD C,E` (0x4B, R157). -/
def execLdCE (s : State) : Result State := move8 0x4B (.reg .c) (.reg .e) s

/-- `LD C,H` (0x4C, R157). -/
def execLdCH (s : State) : Result State := move8 0x4C (.reg .c) (.reg .h) s

/-- `LD C,L` (0x4D, R157). -/
def execLdCL (s : State) : Result State := move8 0x4D (.reg .c) (.reg .l) s

/-- `LD C,A` (0x4F, R157). -/
def execLdCA (s : State) : Result State := move8 0x4F (.reg .c) (.reg .a) s

/-- `LD D,B` (0x50, R157). -/
def execLdDB (s : State) : Result State := move8 0x50 (.reg .d) (.reg .b) s

/-- `LD D,C` (0x51, R157). -/
def execLdDC (s : State) : Result State := move8 0x51 (.reg .d) (.reg .c) s

/-- `LD D,D` (0x52, R157). -/
def execLdDD (s : State) : Result State := move8 0x52 (.reg .d) (.reg .d) s

/-- `LD D,E` (0x53, R157). -/
def execLdDE (s : State) : Result State := move8 0x53 (.reg .d) (.reg .e) s

/-- `LD D,H` (0x54, R157). -/
def execLdDH (s : State) : Result State := move8 0x54 (.reg .d) (.reg .h) s

/-- `LD D,L` (0x55, R157). -/
def execLdDL (s : State) : Result State := move8 0x55 (.reg .d) (.reg .l) s

/-- `LD D,A` (0x57, R157). -/
def execLdDA (s : State) : Result State := move8 0x57 (.reg .d) (.reg .a) s

/-- `LD E,B` (0x58, R157). -/
def execLdEB (s : State) : Result State := move8 0x58 (.reg .e) (.reg .b) s

/-- `LD E,C` (0x59, R157). -/
def execLdEC (s : State) : Result State := move8 0x59 (.reg .e) (.reg .c) s

/-- `LD E,D` (0x5A, R157). -/
def execLdED (s : State) : Result State := move8 0x5A (.reg .e) (.reg .d) s

/-- `LD E,E` (0x5B, R157). -/
def execLdEE (s : State) : Result State := move8 0x5B (.reg .e) (.reg .e) s

/-- `LD E,H` (0x5C, R157). -/
def execLdEH (s : State) : Result State := move8 0x5C (.reg .e) (.reg .h) s

/-- `LD E,L` (0x5D, R157). -/
def execLdEL (s : State) : Result State := move8 0x5D (.reg .e) (.reg .l) s

/-- `LD E,A` (0x5F, R157). -/
def execLdEA (s : State) : Result State := move8 0x5F (.reg .e) (.reg .a) s

/-- `LD H,B` (0x60, R157). -/
def execLdHB (s : State) : Result State := move8 0x60 (.reg .h) (.reg .b) s

/-- `LD H,C` (0x61, R157). -/
def execLdHC (s : State) : Result State := move8 0x61 (.reg .h) (.reg .c) s

/-- `LD H,D` (0x62, R157). -/
def execLdHD (s : State) : Result State := move8 0x62 (.reg .h) (.reg .d) s

/-- `LD H,E` (0x63, R157). -/
def execLdHE (s : State) : Result State := move8 0x63 (.reg .h) (.reg .e) s

/-- `LD H,H` (0x64, R157). -/
def execLdHH (s : State) : Result State := move8 0x64 (.reg .h) (.reg .h) s

/-- `LD H,L` (0x65, R157). -/
def execLdHL (s : State) : Result State := move8 0x65 (.reg .h) (.reg .l) s

/-- `LD H,A` (0x67, R157). -/
def execLdHA (s : State) : Result State := move8 0x67 (.reg .h) (.reg .a) s

/-- `LD L,B` (0x68, R157). -/
def execLdLB (s : State) : Result State := move8 0x68 (.reg .l) (.reg .b) s

/-- `LD L,C` (0x69, R157). -/
def execLdLC (s : State) : Result State := move8 0x69 (.reg .l) (.reg .c) s

/-- `LD L,D` (0x6A, R157). -/
def execLdLD (s : State) : Result State := move8 0x6A (.reg .l) (.reg .d) s

/-- `LD L,E` (0x6B, R157). -/
def execLdLE (s : State) : Result State := move8 0x6B (.reg .l) (.reg .e) s

/-- `LD L,H` (0x6C, R157). -/
def execLdLH (s : State) : Result State := move8 0x6C (.reg .l) (.reg .h) s

/-- `LD L,L` (0x6D, R157). -/
def execLdLL (s : State) : Result State := move8 0x6D (.reg .l) (.reg .l) s

/-- `LD L,A` (0x6F, R157). -/
def execLdLA (s : State) : Result State := move8 0x6F (.reg .l) (.reg .a) s

/-- `LD A,B` (0x78, R157). -/
def execLdAB (s : State) : Result State := move8 0x78 (.reg .a) (.reg .b) s

/-- `LD A,C` (0x79, R157). -/
def execLdAC (s : State) : Result State := move8 0x79 (.reg .a) (.reg .c) s

/-- `LD A,D` (0x7A, R157). -/
def execLdAD (s : State) : Result State := move8 0x7A (.reg .a) (.reg .d) s

/-- `LD A,E` (0x7B, R157). -/
def execLdAE (s : State) : Result State := move8 0x7B (.reg .a) (.reg .e) s

/-- `LD A,H` (0x7C, R157). -/
def execLdAH (s : State) : Result State := move8 0x7C (.reg .a) (.reg .h) s

/-- `LD A,L` (0x7D, R157). -/
def execLdAL (s : State) : Result State := move8 0x7D (.reg .a) (.reg .l) s

/-- `LD A,A` (0x7F, R157). -/
def execLdAA (s : State) : Result State := move8 0x7F (.reg .a) (.reg .a) s

/-! R158 -/

/-- `LD B,(HL)` (0x46, R158). -/
def execLdBMemHl (s : State) : Result State := move8 0x46 (.reg .b) .memHl s

/-- `LD C,(HL)` (0x4E, R158). -/
def execLdCMemHl (s : State) : Result State := move8 0x4E (.reg .c) .memHl s

/-- `LD D,(HL)` (0x56, R158). -/
def execLdDMemHl (s : State) : Result State := move8 0x56 (.reg .d) .memHl s

/-- `LD E,(HL)` (0x5E, R158). -/
def execLdEMemHl (s : State) : Result State := move8 0x5E (.reg .e) .memHl s

/-- `LD H,(HL)` (0x66, R158). -/
def execLdHMemHl (s : State) : Result State := move8 0x66 (.reg .h) .memHl s

/-- `LD L,(HL)` (0x6E, R158). -/
def execLdLMemHl (s : State) : Result State := move8 0x6E (.reg .l) .memHl s

/-- `LD A,(HL)` (0x7E, R158). -/
def execLdAMemHl (s : State) : Result State := move8 0x7E (.reg .a) .memHl s

/-! R159 -/

/-- `LD (HL),B` (0x70, R159). -/
def execLdMemHlB (s : State) : Result State := move8 0x70 .memHl (.reg .b) s

/-- `LD (HL),C` (0x71, R159). -/
def execLdMemHlC (s : State) : Result State := move8 0x71 .memHl (.reg .c) s

/-- `LD (HL),D` (0x72, R159). -/
def execLdMemHlD (s : State) : Result State := move8 0x72 .memHl (.reg .d) s

/-- `LD (HL),E` (0x73, R159). -/
def execLdMemHlE (s : State) : Result State := move8 0x73 .memHl (.reg .e) s

/-- `LD (HL),H` (0x74, R159). -/
def execLdMemHlH (s : State) : Result State := move8 0x74 .memHl (.reg .h) s

/-- `LD (HL),L` (0x75, R159). -/
def execLdMemHlL (s : State) : Result State := move8 0x75 .memHl (.reg .l) s

/-- `LD (HL),A` (0x77, R159). -/
def execLdMemHlA (s : State) : Result State := move8 0x77 .memHl (.reg .a) s

/-! R160 -/

/-- `LD (nn),HL` (0x22, R160). -/
def execLdMemNnHl (nn : Word) (s : State) : Result State := storeHl 0x22 nn s

/-! R161 -/

/-- `LD HL,(nn)` (0x2A, R161). -/
def execLdHlMemNn (nn : Word) (s : State) : Result State := loadHl 0x2A nn s

/-! R162 -/

/-- `LD (nn),A` (0x32, R162). -/
def execLdMemNnA (nn : Word) (s : State) : Result State := storeA 0x32 nn s

/-! R163 -/

/-- `LD A,(nn)` (0x3A, R163). -/
def execLdAMemNn (nn : Word) (s : State) : Result State := loadA 0x3A nn s

/-! R164 -/

/-- `EX AF,AF'` (0x08, R164). -/
def execExAfAf (s : State) : Result State := exchangeAf 0x08 s

end Sys2Proof.Machine
end

