-- ==== Sys2Proof/Machine/Unimplemented.lean ====
section
/-! DEFINITION. The opcodes 0xC0-0xFF, which have no executed group (R75): refused or skipped, as `UNIMPL_MODE` says. Each meaning runs after the
fetch, with PC past the instruction, and ends with the epilogue. -/

namespace Sys2Proof.Machine

/-- An opcode 0xC0-0xFF: in REFUSE mode the step is refused (R139); in SKIP mode only the opcode fetch and an epilogue
of cost `UNIMPL_TSTATES` run (R140). -/
def unimplemented (op : Byte) (s : State) : Result State :=
  match s.params.unimplMode with
  | .refuse => .refused (.unimplemented op)
  | .skip => .next { s with t := s.t + s.params.unimplTStates, r := s.r + 1 }

/-! R139 -/

/-- `RET NZ` (0xC0, R139). -/
def execRetNz (s : State) : Result State := unimplemented 0xC0 s

/-- `POP BC` (0xC1, R139). -/
def execPopBc (s : State) : Result State := unimplemented 0xC1 s

/-- `JP NZ,nn` (0xC2, R139). -/
def execJpNzNn (s : State) : Result State := unimplemented 0xC2 s

/-- `JP nn` (0xC3, R139). -/
def execJpNn (s : State) : Result State := unimplemented 0xC3 s

/-- `CALL NZ,nn` (0xC4, R139). -/
def execCallNzNn (s : State) : Result State := unimplemented 0xC4 s

/-- `PUSH BC` (0xC5, R139). -/
def execPushBc (s : State) : Result State := unimplemented 0xC5 s

/-- `ADD A,n` (0xC6, R139). -/
def execAddAN (s : State) : Result State := unimplemented 0xC6 s

/-- `RST 00h` (0xC7, R139). -/
def execRst00 (s : State) : Result State := unimplemented 0xC7 s

/-- `RET Z` (0xC8, R139). -/
def execRetZ (s : State) : Result State := unimplemented 0xC8 s

/-- `RET` (0xC9, R139). -/
def execRet (s : State) : Result State := unimplemented 0xC9 s

/-- `JP Z,nn` (0xCA, R139). -/
def execJpZNn (s : State) : Result State := unimplemented 0xCA s

/-- `PREFIX CB` (0xCB, R139). -/
def execPrefixCb (s : State) : Result State := unimplemented 0xCB s

/-- `CALL Z,nn` (0xCC, R139). -/
def execCallZNn (s : State) : Result State := unimplemented 0xCC s

/-- `CALL nn` (0xCD, R139). -/
def execCallNn (s : State) : Result State := unimplemented 0xCD s

/-- `ADC A,n` (0xCE, R139). -/
def execAdcAN (s : State) : Result State := unimplemented 0xCE s

/-- `RST 08h` (0xCF, R139). -/
def execRst08 (s : State) : Result State := unimplemented 0xCF s

/-- `RET NC` (0xD0, R139). -/
def execRetNc (s : State) : Result State := unimplemented 0xD0 s

/-- `POP DE` (0xD1, R139). -/
def execPopDe (s : State) : Result State := unimplemented 0xD1 s

/-- `JP NC,nn` (0xD2, R139). -/
def execJpNcNn (s : State) : Result State := unimplemented 0xD2 s

/-- `OUT (n),A` (0xD3, R139). -/
def execOutPortNA (s : State) : Result State := unimplemented 0xD3 s

/-- `CALL NC,nn` (0xD4, R139). -/
def execCallNcNn (s : State) : Result State := unimplemented 0xD4 s

/-- `PUSH DE` (0xD5, R139). -/
def execPushDe (s : State) : Result State := unimplemented 0xD5 s

/-- `SUB n` (0xD6, R139). -/
def execSubN (s : State) : Result State := unimplemented 0xD6 s

/-- `RST 10h` (0xD7, R139). -/
def execRst10 (s : State) : Result State := unimplemented 0xD7 s

/-- `RET C` (0xD8, R139). -/
def execRetC (s : State) : Result State := unimplemented 0xD8 s

/-- `EXX` (0xD9, R139). -/
def execExx (s : State) : Result State := unimplemented 0xD9 s

/-- `JP C,nn` (0xDA, R139). -/
def execJpCNn (s : State) : Result State := unimplemented 0xDA s

/-- `IN A,(n)` (0xDB, R139). -/
def execInAPortN (s : State) : Result State := unimplemented 0xDB s

/-- `CALL C,nn` (0xDC, R139). -/
def execCallCNn (s : State) : Result State := unimplemented 0xDC s

/-- `PREFIX DD` (0xDD, R139). -/
def execPrefixDd (s : State) : Result State := unimplemented 0xDD s

/-- `SBC A,n` (0xDE, R139). -/
def execSbcAN (s : State) : Result State := unimplemented 0xDE s

/-- `RST 18h` (0xDF, R139). -/
def execRst18 (s : State) : Result State := unimplemented 0xDF s

/-- `RET PO` (0xE0, R139). -/
def execRetPo (s : State) : Result State := unimplemented 0xE0 s

/-- `POP HL` (0xE1, R139). -/
def execPopHl (s : State) : Result State := unimplemented 0xE1 s

/-- `JP PO,nn` (0xE2, R139). -/
def execJpPoNn (s : State) : Result State := unimplemented 0xE2 s

/-- `EX (SP),HL` (0xE3, R139). -/
def execExMemSpHl (s : State) : Result State := unimplemented 0xE3 s

/-- `CALL PO,nn` (0xE4, R139). -/
def execCallPoNn (s : State) : Result State := unimplemented 0xE4 s

/-- `PUSH HL` (0xE5, R139). -/
def execPushHl (s : State) : Result State := unimplemented 0xE5 s

/-- `AND n` (0xE6, R139). -/
def execAndN (s : State) : Result State := unimplemented 0xE6 s

/-- `RST 20h` (0xE7, R139). -/
def execRst20 (s : State) : Result State := unimplemented 0xE7 s

/-- `RET PE` (0xE8, R139). -/
def execRetPe (s : State) : Result State := unimplemented 0xE8 s

/-- `JP (HL)` (0xE9, R139). -/
def execJpMemHl (s : State) : Result State := unimplemented 0xE9 s

/-- `JP PE,nn` (0xEA, R139). -/
def execJpPeNn (s : State) : Result State := unimplemented 0xEA s

/-- `EX DE,HL` (0xEB, R139). -/
def execExDeHl (s : State) : Result State := unimplemented 0xEB s

/-- `CALL PE,nn` (0xEC, R139). -/
def execCallPeNn (s : State) : Result State := unimplemented 0xEC s

/-- `PREFIX ED` (0xED, R139). -/
def execPrefixEd (s : State) : Result State := unimplemented 0xED s

/-- `XOR n` (0xEE, R139). -/
def execXorN (s : State) : Result State := unimplemented 0xEE s

/-- `RST 28h` (0xEF, R139). -/
def execRst28 (s : State) : Result State := unimplemented 0xEF s

/-- `RET P` (0xF0, R139). -/
def execRetP (s : State) : Result State := unimplemented 0xF0 s

/-- `POP AF` (0xF1, R139). -/
def execPopAf (s : State) : Result State := unimplemented 0xF1 s

/-- `JP P,nn` (0xF2, R139). -/
def execJpPNn (s : State) : Result State := unimplemented 0xF2 s

/-- `DI` (0xF3, R139). -/
def execDi (s : State) : Result State := unimplemented 0xF3 s

/-- `CALL P,nn` (0xF4, R139). -/
def execCallPNn (s : State) : Result State := unimplemented 0xF4 s

/-- `PUSH AF` (0xF5, R139). -/
def execPushAf (s : State) : Result State := unimplemented 0xF5 s

/-- `OR n` (0xF6, R139). -/
def execOrN (s : State) : Result State := unimplemented 0xF6 s

/-- `RST 30h` (0xF7, R139). -/
def execRst30 (s : State) : Result State := unimplemented 0xF7 s

/-- `RET M` (0xF8, R139). -/
def execRetM (s : State) : Result State := unimplemented 0xF8 s

/-- `LD SP,HL` (0xF9, R139). -/
def execLdSpHl (s : State) : Result State := unimplemented 0xF9 s

/-- `JP M,nn` (0xFA, R139). -/
def execJpMNn (s : State) : Result State := unimplemented 0xFA s

/-- `EI` (0xFB, R139). -/
def execEi (s : State) : Result State := unimplemented 0xFB s

/-- `CALL M,nn` (0xFC, R139). -/
def execCallMNn (s : State) : Result State := unimplemented 0xFC s

/-- `PREFIX FD` (0xFD, R139). -/
def execPrefixFd (s : State) : Result State := unimplemented 0xFD s

/-- `CP n` (0xFE, R139). -/
def execCpN (s : State) : Result State := unimplemented 0xFE s

/-- `RST 38h` (0xFF, R139). -/
def execRst38 (s : State) : Result State := unimplemented 0xFF s

end Sys2Proof.Machine
end

