-- ==== Sys2Proof/Machine/Step.lean ====
section
/-! DEFINITION. One step (R130), and the placing of a word where the next step fetches it. -/

namespace Sys2Proof.Machine

/-- `step()` (R130). A halted core does nothing: the spec's outcome `Halted` is answered as the unchanged state, and
`report` tells it apart (R141, log 1). Otherwise the instruction at PC is fetched, PC moving past it, and executed. -/
def step (s : State) : Host.Outcome State Fault Refusal :=
  if s.halted then .next s
  else andThen (fetchInstr s) fun x => exec x.1 x.2

/-- `s` with an instruction's bytes at PC, PC + 1 and PC + 2 (mod 65536), the extent covering them and the core not
halted, so that the next step fetches and runs that instruction (log 12, 13). -/
def State.withFetchWord (s : State) (nbits w : Nat) : State :=
  { s with halted := false, mem := placeBytes s.mem s.pc (tableBytes nbits w) }

end Sys2Proof.Machine
end

