-- ==== Sys2Proof/Machine/Boot.lean ====
section
/-! DEFINITION. Construction of the machine from an image (R261), and the register writes the excluded harness makes
before the first step (R263, R268). -/

namespace Sys2Proof.Machine

/-- `construct(bytes)` (R261): memory is the image from address 0, registers are reset; an image longer than 65536
bytes is refused. The parameters and the reset draws are free arguments (R8, R40). -/
def construct (p : Params) (draw : ResetDraw) (bytes : List Byte) : Result State :=
  if imageWf bytes then .next (State.afterReset p draw (Memory.ofImage bytes))
  else .refused (.imageTooLong bytes.length)

/-- What the excluded harness writes after construction and before the first step (R263): HL = 0xFE00, BC = 0x00FF.
No step does this, and these are not reset values. -/
def harnessSeed (s : State) : State := (s.setPair .hl 0xFE00).setPair .bc 0x00FF

end Sys2Proof.Machine
end

