-- ==== Sys2Proof/Machine/DisplayDecoder.lean ====
section
/-! DEFINITION. The display decoder (47_decoder.md): total over all 256 opcodes, read-only, never used by the executor
(R83, R220). -/

namespace Sys2Proof.Machine

/-- `Instruction{ text, bytes, length }` (R220). -/
structure DisplayInstr where
  text   : String
  bytes  : List Byte
  length : Nat
deriving DecidableEq, Repr

/-- The template table of R221: a line per high nibble, its entries by low nibble. -/
def templateLine : Nat → List String
  | 0 =>
    ["NOP", "LD BC,**", "LD (BC),A", "INC BC", "INC B", "DEC B", "LD B,*", "RLCA",
     "EX AF,AF'", "ADD HL,BC", "LD A,(BC)", "DEC BC", "INC C", "DEC C", "LD C,*", "RRCA"]
  | 1 =>
    ["DJNZ *", "LD DE,**", "LD (DE),A", "INC DE", "INC D", "DEC D", "LD D,*", "RLA",
     "JR *", "ADD HL,DE", "LD A,(DE)", "DEC DE", "INC E", "DEC E", "LD E,*", "RRA"]
  | 2 =>
    ["JR NZ,*", "LD HL,**", "LD (**),HL", "INC HL", "INC H", "DEC H", "LD H,*", "DAA",
     "JR Z,*", "ADD HL,HL", "LD HL,(**)", "DEC HL", "INC L", "DEC L", "LD L,*", "CPL"]
  | 3 =>
    ["JR NC,*", "LD SP,**", "LD (**),A", "INC SP", "INC (HL)", "DEC (HL)", "LD (HL),*", "SCF",
     "JR C,*", "ADD HL,SP", "LD A,(**)", "DEC SP", "INC A", "DEC A", "LD A,*", "CCF"]
  | 4 =>
    ["LD B,B", "LD B,C", "LD B,D", "LD B,E", "LD B,H", "LD B,L", "LD B,(HL)", "LD B,A",
     "LD C,B", "LD C,C", "LD C,D", "LD C,E", "LD C,H", "LD C,L", "LD C,(HL)", "LD C,A"]
  | 5 =>
    ["LD D,B", "LD D,C", "LD D,D", "LD D,E", "LD D,H", "LD D,L", "LD D,(HL)", "LD D,A",
     "LD E,B", "LD E,C", "LD E,D", "LD E,E", "LD E,H", "LD E,L", "LD E,(HL)", "LD E,A"]
  | 6 =>
    ["LD H,B", "LD H,C", "LD H,D", "LD H,E", "LD H,H", "LD H,L", "LD H,(HL)", "LD H,A",
     "LD L,B", "LD L,C", "LD L,D", "LD L,E", "LD L,H", "LD L,L", "LD L,(HL)", "LD L,A"]
  | 7 =>
    ["LD (HL),B", "LD (HL),C", "LD (HL),D", "LD (HL),E", "LD (HL),H", "LD (HL),L", "HALT", "LD (HL),A",
     "LD A,B", "LD A,C", "LD A,D", "LD A,E", "LD A,H", "LD A,L", "LD A,(HL)", "LD A,A"]
  | 8 =>
    ["ADD A,B", "ADD A,C", "ADD A,D", "ADD A,E", "ADD A,H", "ADD A,L", "ADD A,(HL)", "ADD A,A",
     "ADC A,B", "ADC A,C", "ADC A,D", "ADC A,E", "ADC A,H", "ADC A,L", "ADC A,(HL)", "ADC A,A"]
  | 9 =>
    ["SUB B", "SUB C", "SUB D", "SUB E", "SUB H", "SUB L", "SUB (HL)", "SUB A",
     "SBC A,B", "SBC A,C", "SBC A,D", "SBC A,E", "SBC A,H", "SBC A,L", "SBC A,(HL)", "SBC A,A"]
  | 10 =>
    ["AND B", "AND C", "AND D", "AND E", "AND H", "AND L", "AND (HL)", "AND A",
     "XOR B", "XOR C", "XOR D", "XOR E", "XOR H", "XOR L", "XOR (HL)", "XOR A"]
  | 11 =>
    ["OR B", "OR C", "OR D", "OR E", "OR H", "OR L", "OR (HL)", "OR A",
     "CP B", "CP C", "CP D", "CP E", "CP H", "CP L", "CP (HL)", "CP A"]
  | 12 =>
    ["RET NZ", "POP BC", "JP NZ,**", "JP **", "CALL NZ,**", "PUSH BC", "ADD A,*", "RST 00h",
     "RET Z", "RET", "JP Z,**", "PREFIX CB", "CALL Z,**", "CALL **", "ADC A,*", "RST 08h"]
  | 13 =>
    ["RET NC", "POP DE", "JP NC,**", "OUT (*),A", "CALL NC,**", "PUSH DE", "SUB *", "RST 10h",
     "RET C", "EXX", "JP C,**", "IN A,(*)", "CALL C,**", "PREFIX DD", "SBC A,*", "RST 18h"]
  | 14 =>
    ["RET PO", "POP HL", "JP PO,**", "EX (SP),HL", "CALL PO,**", "PUSH HL", "AND *", "RST 20h",
     "RET PE", "JP (HL)", "JP PE,**", "EX DE,HL", "CALL PE,**", "PREFIX ED", "XOR *", "RST 28h"]
  | _ =>
    ["RET P", "POP AF", "JP P,**", "DI", "CALL P,**", "PUSH AF", "OR *", "RST 30h",
     "RET M", "LD SP,HL", "JP M,**", "EI", "CALL M,**", "PREFIX FD", "CP *", "RST 38h"]

/-- The base mnemonic template of an opcode byte (R221). -/
def template (op : Byte) : String := (templateLine (op.toNat / 16)).getD (op.toNat % 16) ""

/-- Whether a template holds `**`. -/
def hasWordMark : List Char → Bool
  | '*' :: '*' :: _ => true
  | _ :: rest => hasWordMark rest
  | [] => false

/-- The length by the placeholder markers of the template (R222). -/
def displayLength (op : Byte) : Nat :=
  let text := (template op).toList
  if hasWordMark text then 3 else if text.contains '*' then 2 else 1

/-- A hexadecimal digit, upper case (R82). -/
def hexDigit (n : Nat) : Char := "0123456789ABCDEF".toList.getD n '0'

/-- A byte as two hexadecimal digits. -/
def hexByte (v : Byte) : List Char := [hexDigit (v.toNat / 16), hexDigit (v.toNat % 16)]

/-- Replace `**` by a word's four digits and `h` (R223). -/
def substWord (nn : Word) : List Char → List Char
  | '*' :: '*' :: rest => hexByte (hiByte nn) ++ hexByte (loByte nn) ++ 'h' :: rest
  | c :: rest => c :: substWord nn rest
  | [] => []

/-- Replace `*` by a byte's two digits and `h` (R223). -/
def substByte (n : Byte) : List Char → List Char
  | '*' :: rest => hexByte n ++ 'h' :: rest
  | c :: rest => c :: substByte n rest
  | [] => []

/-- The bytes at `n` addresses from `addr`, as far as they exist (R223-R225). -/
def displayBytes (m : Memory) (addr : Nat) : Nat → List Byte
  | 0 => []
  | n + 1 =>
    match m.read addr with
    | some v => v :: displayBytes m (addr + 1) n
    | none => []

/-- The text of an instruction whose bytes all exist (R223): `**` is substituted before `*` is looked for. -/
def displayText (bytes : List Byte) : String :=
  match bytes with
  | [op, b1, b2] => String.ofList (substWord (cat b2 b1) (template op).toList)
  | [op, b1] => String.ofList (substByte b1 (template op).toList)
  | [op] => template op
  | _ => ""

/-- `decode(address)` (R220): at or past the end there is no opcode (R225); an instruction that runs past the end, on
integers and without wrap (R226), is unrecognized but keeps its length (R224). -/
def display (p : Params) (m : Memory) (addr : Word) : DisplayInstr :=
  match m.read addr.toNat with
  | none => { text := p.unrecText, bytes := [], length := 1 }
  | some op =>
    let n := displayLength op
    let bytes := displayBytes m addr.toNat n
    { text := if addr.toNat + n > m.size then p.unrecText else displayText bytes
      bytes := bytes
      length := n }

end Sys2Proof.Machine
end

