-- ==== Sys2Proof/Machine/Form.lean ====
section
/-! DEFINITION. The grouping of the 256 instructions by the instruction rules (R72-R75): what statements and proofs
quantify over. `exec` does not use it. -/

namespace Sys2Proof.Machine

/-- The eight accumulator instructions (45_accumulator.md), by `y` (R72). -/
inductive AccOp where
  | rlca | rrca | rla | rra | daa | cpl | scf | ccf
deriving DecidableEq, Repr

/-- The `y` field of an accumulator instruction (R72). -/
def AccOp.code : AccOp → BitVec 3
  | .rlca => 0
  | .rrca => 1
  | .rla => 2
  | .rra => 3
  | .daa => 4
  | .cpl => 5
  | .scf => 6
  | .ccf => 7

/-- An instruction rule with its operands. -/
inductive Form where
  /-- R210 -/
  | nop
  /-- R164 -/
  | exAf
  /-- R212 -/
  | djnz (d : Int)
  /-- R213 -/
  | jr (d : Int)
  /-- R214 -/
  | jrCc (cc : Cond) (d : Int)
  /-- R150 -/
  | ldPairNn (p : Pair) (nn : Word)
  /-- R172 -/
  | addHl (p : Pair)
  /-- R151 -/
  | ldMemBcA
  /-- R152 -/
  | ldMemDeA
  /-- R160 -/
  | ldMemNnHl (nn : Word)
  /-- R162 -/
  | ldMemNnA (nn : Word)
  /-- R153 -/
  | ldAMemBc
  /-- R154 -/
  | ldAMemDe
  /-- R161 -/
  | ldHlMemNn (nn : Word)
  /-- R163 -/
  | ldAMemNn (nn : Word)
  /-- R170 -/
  | incPair (p : Pair)
  /-- R171 -/
  | decPair (p : Pair)
  /-- R180 for a register, R181 for (HL) -/
  | inc (o : Operand8)
  /-- R182 for a register, R183 for (HL) -/
  | dec (o : Operand8)
  /-- R155 for a register, R156 for (HL) -/
  | ldN (dst : Operand8) (n : Byte)
  /-- R200-R207 -/
  | acc (op : AccOp)
  /-- R157 between registers, R158 from (HL), R159 to (HL); no instruction has (HL) on both sides (R73) -/
  | ld8 (dst src : Operand8)
  /-- R215 -/
  | halt
  /-- R185-R191 -/
  | alu (op : AluOp) (o : Operand8)
  /-- R192 -/
  | cp (o : Operand8)
  /-- R139, R140: an opcode 0xC0-0xFF -/
  | unimpl (op : Byte)
deriving DecidableEq, Repr

/-- The rule and operands of an instruction (R72-R75). -/
def formOf : Instr → Form
  | .nop => .nop
  | .ldBcNn nn => .ldPairNn .bc nn
  | .ldMemBcA => .ldMemBcA
  | .incBc => .incPair .bc
  | .incB => .inc (.reg .b)
  | .decB => .dec (.reg .b)
  | .ldBN n => .ldN (.reg .b) n
  | .rlca => .acc .rlca
  | .exAfAf => .exAf
  | .addHlBc => .addHl .bc
  | .ldAMemBc => .ldAMemBc
  | .decBc => .decPair .bc
  | .incC => .inc (.reg .c)
  | .decC => .dec (.reg .c)
  | .ldCN n => .ldN (.reg .c) n
  | .rrca => .acc .rrca
  | .djnz d => .djnz d
  | .ldDeNn nn => .ldPairNn .de nn
  | .ldMemDeA => .ldMemDeA
  | .incDe => .incPair .de
  | .incD => .inc (.reg .d)
  | .decD => .dec (.reg .d)
  | .ldDN n => .ldN (.reg .d) n
  | .rla => .acc .rla
  | .jr d => .jr d
  | .addHlDe => .addHl .de
  | .ldAMemDe => .ldAMemDe
  | .decDe => .decPair .de
  | .incE => .inc (.reg .e)
  | .decE => .dec (.reg .e)
  | .ldEN n => .ldN (.reg .e) n
  | .rra => .acc .rra
  | .jrNz d => .jrCc .nz d
  | .ldHlNn nn => .ldPairNn .hl nn
  | .ldMemNnHl nn => .ldMemNnHl nn
  | .incHl => .incPair .hl
  | .incH => .inc (.reg .h)
  | .decH => .dec (.reg .h)
  | .ldHN n => .ldN (.reg .h) n
  | .daa => .acc .daa
  | .jrZ d => .jrCc .z d
  | .addHlHl => .addHl .hl
  | .ldHlMemNn nn => .ldHlMemNn nn
  | .decHl => .decPair .hl
  | .incL => .inc (.reg .l)
  | .decL => .dec (.reg .l)
  | .ldLN n => .ldN (.reg .l) n
  | .cpl => .acc .cpl
  | .jrNc d => .jrCc .nc d
  | .ldSpNn nn => .ldPairNn .sp nn
  | .ldMemNnA nn => .ldMemNnA nn
  | .incSp => .incPair .sp
  | .incMemHl => .inc .memHl
  | .decMemHl => .dec .memHl
  | .ldMemHlN n => .ldN .memHl n
  | .scf => .acc .scf
  | .jrC d => .jrCc .c d
  | .addHlSp => .addHl .sp
  | .ldAMemNn nn => .ldAMemNn nn
  | .decSp => .decPair .sp
  | .incA => .inc (.reg .a)
  | .decA => .dec (.reg .a)
  | .ldAN n => .ldN (.reg .a) n
  | .ccf => .acc .ccf
  | .ldBB => .ld8 (.reg .b) (.reg .b)
  | .ldBC => .ld8 (.reg .b) (.reg .c)
  | .ldBD => .ld8 (.reg .b) (.reg .d)
  | .ldBE => .ld8 (.reg .b) (.reg .e)
  | .ldBH => .ld8 (.reg .b) (.reg .h)
  | .ldBL => .ld8 (.reg .b) (.reg .l)
  | .ldBMemHl => .ld8 (.reg .b) .memHl
  | .ldBA => .ld8 (.reg .b) (.reg .a)
  | .ldCB => .ld8 (.reg .c) (.reg .b)
  | .ldCC => .ld8 (.reg .c) (.reg .c)
  | .ldCD => .ld8 (.reg .c) (.reg .d)
  | .ldCE => .ld8 (.reg .c) (.reg .e)
  | .ldCH => .ld8 (.reg .c) (.reg .h)
  | .ldCL => .ld8 (.reg .c) (.reg .l)
  | .ldCMemHl => .ld8 (.reg .c) .memHl
  | .ldCA => .ld8 (.reg .c) (.reg .a)
  | .ldDB => .ld8 (.reg .d) (.reg .b)
  | .ldDC => .ld8 (.reg .d) (.reg .c)
  | .ldDD => .ld8 (.reg .d) (.reg .d)
  | .ldDE => .ld8 (.reg .d) (.reg .e)
  | .ldDH => .ld8 (.reg .d) (.reg .h)
  | .ldDL => .ld8 (.reg .d) (.reg .l)
  | .ldDMemHl => .ld8 (.reg .d) .memHl
  | .ldDA => .ld8 (.reg .d) (.reg .a)
  | .ldEB => .ld8 (.reg .e) (.reg .b)
  | .ldEC => .ld8 (.reg .e) (.reg .c)
  | .ldED => .ld8 (.reg .e) (.reg .d)
  | .ldEE => .ld8 (.reg .e) (.reg .e)
  | .ldEH => .ld8 (.reg .e) (.reg .h)
  | .ldEL => .ld8 (.reg .e) (.reg .l)
  | .ldEMemHl => .ld8 (.reg .e) .memHl
  | .ldEA => .ld8 (.reg .e) (.reg .a)
  | .ldHB => .ld8 (.reg .h) (.reg .b)
  | .ldHC => .ld8 (.reg .h) (.reg .c)
  | .ldHD => .ld8 (.reg .h) (.reg .d)
  | .ldHE => .ld8 (.reg .h) (.reg .e)
  | .ldHH => .ld8 (.reg .h) (.reg .h)
  | .ldHL => .ld8 (.reg .h) (.reg .l)
  | .ldHMemHl => .ld8 (.reg .h) .memHl
  | .ldHA => .ld8 (.reg .h) (.reg .a)
  | .ldLB => .ld8 (.reg .l) (.reg .b)
  | .ldLC => .ld8 (.reg .l) (.reg .c)
  | .ldLD => .ld8 (.reg .l) (.reg .d)
  | .ldLE => .ld8 (.reg .l) (.reg .e)
  | .ldLH => .ld8 (.reg .l) (.reg .h)
  | .ldLL => .ld8 (.reg .l) (.reg .l)
  | .ldLMemHl => .ld8 (.reg .l) .memHl
  | .ldLA => .ld8 (.reg .l) (.reg .a)
  | .ldMemHlB => .ld8 .memHl (.reg .b)
  | .ldMemHlC => .ld8 .memHl (.reg .c)
  | .ldMemHlD => .ld8 .memHl (.reg .d)
  | .ldMemHlE => .ld8 .memHl (.reg .e)
  | .ldMemHlH => .ld8 .memHl (.reg .h)
  | .ldMemHlL => .ld8 .memHl (.reg .l)
  | .halt => .halt
  | .ldMemHlA => .ld8 .memHl (.reg .a)
  | .ldAB => .ld8 (.reg .a) (.reg .b)
  | .ldAC => .ld8 (.reg .a) (.reg .c)
  | .ldAD => .ld8 (.reg .a) (.reg .d)
  | .ldAE => .ld8 (.reg .a) (.reg .e)
  | .ldAH => .ld8 (.reg .a) (.reg .h)
  | .ldAL => .ld8 (.reg .a) (.reg .l)
  | .ldAMemHl => .ld8 (.reg .a) .memHl
  | .ldAA => .ld8 (.reg .a) (.reg .a)
  | .addAB => .alu .add (.reg .b)
  | .addAC => .alu .add (.reg .c)
  | .addAD => .alu .add (.reg .d)
  | .addAE => .alu .add (.reg .e)
  | .addAH => .alu .add (.reg .h)
  | .addAL => .alu .add (.reg .l)
  | .addAMemHl => .alu .add .memHl
  | .addAA => .alu .add (.reg .a)
  | .adcAB => .alu .adc (.reg .b)
  | .adcAC => .alu .adc (.reg .c)
  | .adcAD => .alu .adc (.reg .d)
  | .adcAE => .alu .adc (.reg .e)
  | .adcAH => .alu .adc (.reg .h)
  | .adcAL => .alu .adc (.reg .l)
  | .adcAMemHl => .alu .adc .memHl
  | .adcAA => .alu .adc (.reg .a)
  | .subB => .alu .sub (.reg .b)
  | .subC => .alu .sub (.reg .c)
  | .subD => .alu .sub (.reg .d)
  | .subE => .alu .sub (.reg .e)
  | .subH => .alu .sub (.reg .h)
  | .subL => .alu .sub (.reg .l)
  | .subMemHl => .alu .sub .memHl
  | .subA => .alu .sub (.reg .a)
  | .sbcAB => .alu .sbc (.reg .b)
  | .sbcAC => .alu .sbc (.reg .c)
  | .sbcAD => .alu .sbc (.reg .d)
  | .sbcAE => .alu .sbc (.reg .e)
  | .sbcAH => .alu .sbc (.reg .h)
  | .sbcAL => .alu .sbc (.reg .l)
  | .sbcAMemHl => .alu .sbc .memHl
  | .sbcAA => .alu .sbc (.reg .a)
  | .andB => .alu .and (.reg .b)
  | .andC => .alu .and (.reg .c)
  | .andD => .alu .and (.reg .d)
  | .andE => .alu .and (.reg .e)
  | .andH => .alu .and (.reg .h)
  | .andL => .alu .and (.reg .l)
  | .andMemHl => .alu .and .memHl
  | .andA => .alu .and (.reg .a)
  | .xorB => .alu .xor (.reg .b)
  | .xorC => .alu .xor (.reg .c)
  | .xorD => .alu .xor (.reg .d)
  | .xorE => .alu .xor (.reg .e)
  | .xorH => .alu .xor (.reg .h)
  | .xorL => .alu .xor (.reg .l)
  | .xorMemHl => .alu .xor .memHl
  | .xorA => .alu .xor (.reg .a)
  | .orB => .alu .or (.reg .b)
  | .orC => .alu .or (.reg .c)
  | .orD => .alu .or (.reg .d)
  | .orE => .alu .or (.reg .e)
  | .orH => .alu .or (.reg .h)
  | .orL => .alu .or (.reg .l)
  | .orMemHl => .alu .or .memHl
  | .orA => .alu .or (.reg .a)
  | .cpB => .cp (.reg .b)
  | .cpC => .cp (.reg .c)
  | .cpD => .cp (.reg .d)
  | .cpE => .cp (.reg .e)
  | .cpH => .cp (.reg .h)
  | .cpL => .cp (.reg .l)
  | .cpMemHl => .cp .memHl
  | .cpA => .cp (.reg .a)
  | .retNz => .unimpl 0xC0
  | .popBc => .unimpl 0xC1
  | .jpNzNn => .unimpl 0xC2
  | .jpNn => .unimpl 0xC3
  | .callNzNn => .unimpl 0xC4
  | .pushBc => .unimpl 0xC5
  | .addAN => .unimpl 0xC6
  | .rst00 => .unimpl 0xC7
  | .retZ => .unimpl 0xC8
  | .ret => .unimpl 0xC9
  | .jpZNn => .unimpl 0xCA
  | .prefixCb => .unimpl 0xCB
  | .callZNn => .unimpl 0xCC
  | .callNn => .unimpl 0xCD
  | .adcAN => .unimpl 0xCE
  | .rst08 => .unimpl 0xCF
  | .retNc => .unimpl 0xD0
  | .popDe => .unimpl 0xD1
  | .jpNcNn => .unimpl 0xD2
  | .outPortNA => .unimpl 0xD3
  | .callNcNn => .unimpl 0xD4
  | .pushDe => .unimpl 0xD5
  | .subN => .unimpl 0xD6
  | .rst10 => .unimpl 0xD7
  | .retC => .unimpl 0xD8
  | .exx => .unimpl 0xD9
  | .jpCNn => .unimpl 0xDA
  | .inAPortN => .unimpl 0xDB
  | .callCNn => .unimpl 0xDC
  | .prefixDd => .unimpl 0xDD
  | .sbcAN => .unimpl 0xDE
  | .rst18 => .unimpl 0xDF
  | .retPo => .unimpl 0xE0
  | .popHl => .unimpl 0xE1
  | .jpPoNn => .unimpl 0xE2
  | .exMemSpHl => .unimpl 0xE3
  | .callPoNn => .unimpl 0xE4
  | .pushHl => .unimpl 0xE5
  | .andN => .unimpl 0xE6
  | .rst20 => .unimpl 0xE7
  | .retPe => .unimpl 0xE8
  | .jpMemHl => .unimpl 0xE9
  | .jpPeNn => .unimpl 0xEA
  | .exDeHl => .unimpl 0xEB
  | .callPeNn => .unimpl 0xEC
  | .prefixEd => .unimpl 0xED
  | .xorN => .unimpl 0xEE
  | .rst28 => .unimpl 0xEF
  | .retP => .unimpl 0xF0
  | .popAf => .unimpl 0xF1
  | .jpPNn => .unimpl 0xF2
  | .di => .unimpl 0xF3
  | .callPNn => .unimpl 0xF4
  | .pushAf => .unimpl 0xF5
  | .orN => .unimpl 0xF6
  | .rst30 => .unimpl 0xF7
  | .retM => .unimpl 0xF8
  | .ldSpHl => .unimpl 0xF9
  | .jpMNn => .unimpl 0xFA
  | .ei => .unimpl 0xFB
  | .callMNn => .unimpl 0xFC
  | .prefixFd => .unimpl 0xFD
  | .cpN => .unimpl 0xFE
  | .rst38 => .unimpl 0xFF

end Sys2Proof.Machine
end

