-- ==== Sys2Proof/Machine/Report.lean ====
section
/-! DEFINITION. The four outcomes of a step as the spec counts them (R13, R240): the host's interface has three, so
`step` answers a halted core's unchanged state (log 1), and `report` gives the spec's outcome. -/

namespace Sys2Proof.Machine

/-- The outcomes of R13. -/
inductive Report where
  /-- `Next(s')`. -/
  | next (s : State)
  /-- `Halted` (R243): no step, the core is suspended. -/
  | halted
  /-- `raise MemFault(addr, kind)` (R241). -/
  | fault (r : Fault)
  /-- `refuse Unimplemented(op)` (R242). -/
  | refused (r : Refusal)
deriving DecidableEq, Repr

/-- The spec's outcome of a step (R130, R244). -/
def report (s : State) : Report :=
  if s.halted then .halted
  else
    match step s with
    | .next s' => .next s'
    | .fault r => .fault r
    | .refused r => .refused r

/-- The state a reader observes after a step (R245): the next state, or, when the step faults, is refused or is a
halted core's, the state before it. -/
def observed (s : State) : State :=
  match step s with
  | .next s' => s'
  | .fault _ => s
  | .refused _ => s

end Sys2Proof.Machine
end

