-- ==== Sys2Proof/Safety.lean ====
section
/-! DEFINITION. The invariant of the machine, what a safe step is, and the terms statements use. -/

namespace Sys2Proof.Machine

/-- The invariant: memory is in canonical form, and a core is suspended only where HALT suspends (R36). -/
def State.wf (s : State) : Bool := s.mem.wf && (!s.halted || s.params.haltSuspends)

/-- A safe step is one that neither faults nor is refused (R241, R242). -/
def StepSafe (s : State) : Prop := ∃ t, step s = .next t

/-- The byte at an address, or nothing outside the extent (R51). -/
def State.byteAt (s : State) (addr : Nat) : Option Byte := s.mem.read addr

/-- The value of an 8-bit operand, or nothing when it is a memory byte outside the extent (R27, R52). -/
def State.operand? (s : State) : Operand8 → Option Byte
  | .reg r => some (s.reg8 r)
  | .memHl => s.byteAt s.hl.toNat

/-- The `n` bytes at an address and those after it, mod 65536, or nothing when one of them does not exist (R54). -/
def State.bytesFrom (s : State) (addr : Word) : Nat → Option (List Byte)
  | 0 => some []
  | n + 1 =>
    match s.byteAt addr.toNat, s.bytesFrom (addr + 1) n with
    | some v, some rest => some (v :: rest)
    | _, _ => none

/-- The flags byte holds these flags, from bit 7 down to bit 0 (R24). -/
def FlagsAre (f : Byte) (s z f5 h f3 pv n c : Bool) : Prop :=
  f.getLsbD 7 = s ∧ f.getLsbD 6 = z ∧ f.getLsbD 5 = f5 ∧ f.getLsbD 4 = h ∧
    f.getLsbD 3 = f3 ∧ f.getLsbD 2 = pv ∧ f.getLsbD 1 = n ∧ f.getLsbD 0 = c

/-- The default `TSTATE` gives an opcode with this branch outcome the cost `n` (R137, R267). -/
def CostIs (op : Byte) (taken : Bool) (n : Nat) : Prop :=
  ∀ p : Params, p.tstates = [] → p.tstate op taken = n

/-- From `s` to `t`, T grew by `TSTATE(op, taken)` and R by one mod 128, and nothing else changed (R137, R138). -/
def OnlyCounters (op : Byte) (taken : Bool) (s t : State) : Prop :=
  t = { s with t := s.t + s.params.tstate op taken, r := s.r + 1 }

/-- Every address reads in `t` as in `s`. -/
def MemorySame (s t : State) : Prop := ∀ x, t.byteAt x = s.byteAt x

/-- `t` reads `v` at `addr`, and every other address as `s` does. -/
def ByteStored (addr : Word) (v : Byte) (s t : State) : Prop :=
  ∀ x, t.byteAt x = if x = addr.toNat then some v else s.byteAt x

/-- From `s` to `t`, besides the counters, only A and F may have changed. -/
def OnlyAF (op : Byte) (s t : State) : Prop :=
  OnlyCounters op false { s with a := t.a, f := t.f } t ∧ MemorySame s t

/-- From `s` to `t`, register `r` of r8 got `v`, and besides it and the counters nothing changed. -/
def OnlyReg8 (op : Byte) (r : Reg8) (v : Byte) (s t : State) : Prop :=
  t.reg8 r = v ∧ (∀ q, q ≠ r → t.reg8 q = s.reg8 q) ∧ MemorySame s t ∧
    OnlyCounters op false { s with a := t.a, b := t.b, c := t.c, d := t.d, e := t.e, h := t.h, l := t.l } t

/-- From `s` to `t`, pair `p` of rp got `v`, and besides it and the counters nothing changed. -/
def OnlyPair (op : Byte) (p : Pair) (v : Word) (s t : State) : Prop :=
  t.pair p = v ∧ (∀ q, q ≠ p → t.pair q = s.pair q) ∧ MemorySame s t ∧
    OnlyCounters op false { s with b := t.b, c := t.c, d := t.d, e := t.e, h := t.h, l := t.l, sp := t.sp } t

/-- The instruction stores `v` at `addr` and changes nothing else but the counters; outside the extent it faults. -/
def StoresByte (i : Instr) (op : Byte) (addr : Word) (v : Byte) (s : State) : Prop :=
  (addr.toNat < s.mem.size →
    ∃ t, exec i s = .next t ∧ ByteStored addr v s t ∧ OnlyCounters op false { s with mem := t.mem } t) ∧
  (s.mem.size ≤ addr.toNat → exec i s = .fault (.memFault addr .write))

/-- The instruction loads the byte at `addr` into a register and changes nothing else but the counters; outside the
extent it faults. -/
def LoadsByte (i : Instr) (op : Byte) (r : Reg8) (addr : Word) (s : State) : Prop :=
  (∀ v, s.byteAt addr.toNat = some v → ∃ t, exec i s = .next t ∧ OnlyReg8 op r v s t) ∧
  (s.mem.size ≤ addr.toNat → exec i s = .fault (.memFault addr .read))

/-- The cost of an ALU operation with this operand (R184). -/
def aluCost : Operand8 → Nat
  | .reg _ => 4
  | .memHl => 7

/-- The byte of two decimal digits. -/
def bcd (n : Nat) : Byte := BitVec.ofNat 8 (16 * (n / 10 % 10) + n % 10)

/-- The addresses an instruction stores to, by its rule (R56): the state is the one the instruction runs in. -/
def storedAddresses : Form → State → List Nat
  | .ldMemBcA, s => [s.bc.toNat]
  | .ldMemDeA, s => [s.de.toNat]
  | .ldMemNnA nn, _ => [nn.toNat]
  | .ldMemNnHl nn, _ => [nn.toNat, (nn + 1).toNat]
  | .inc .memHl, s => [s.hl.toNat]
  | .dec .memHl, s => [s.hl.toNat]
  | .ldN .memHl _, s => [s.hl.toNat]
  | .ld8 .memHl _, s => [s.hl.toNat]
  | .nop, _ | .exAf, _ | .djnz _, _ | .jr _, _ | .jrCc _ _, _ | .ldPairNn _ _, _ | .addHl _, _ | .ldAMemBc, _
  | .ldAMemDe, _ | .ldHlMemNn _, _ | .ldAMemNn _, _ | .incPair _, _ | .decPair _, _ | .inc (.reg _), _
  | .dec (.reg _), _ | .ldN (.reg _) _, _ | .acc _, _ | .ld8 (.reg _) _, _ | .halt, _ | .alu _ _, _ | .cp _, _
  | .unimpl _, _ => []

/-- The addresses an instruction's data accesses use, in the order of its rule, with the kind of the first access to
each (R56, R241). -/
def dataAccesses : Form → State → List (Word × AccessKind)
  | .ldMemBcA, s => [(s.bc, .write)]
  | .ldMemDeA, s => [(s.de, .write)]
  | .ldMemNnA nn, _ => [(nn, .write)]
  | .ldMemNnHl nn, _ => [(nn, .write), (nn + 1, .write)]
  | .ldAMemBc, s => [(s.bc, .read)]
  | .ldAMemDe, s => [(s.de, .read)]
  | .ldAMemNn nn, _ => [(nn, .read)]
  | .ldHlMemNn nn, _ => [(nn, .read), (nn + 1, .read)]
  | .inc .memHl, s => [(s.hl, .read)]
  | .dec .memHl, s => [(s.hl, .read)]
  | .ldN .memHl _, s => [(s.hl, .write)]
  | .ld8 .memHl (.reg _), s => [(s.hl, .write)]
  | .ld8 _ .memHl, s => [(s.hl, .read)]
  | .alu _ .memHl, s => [(s.hl, .read)]
  | .cp .memHl, s => [(s.hl, .read)]
  | .nop, _ | .exAf, _ | .djnz _, _ | .jr _, _ | .jrCc _ _, _ | .ldPairNn _ _, _ | .addHl _, _ | .incPair _, _
  | .decPair _, _ | .inc (.reg _), _ | .dec (.reg _), _ | .ldN (.reg _) _, _ | .acc _, _ | .ld8 (.reg _) (.reg _), _
  | .halt, _ | .alu _ (.reg _), _ | .cp (.reg _), _ | .unimpl _, _ => []

/-- The registers no executed instruction reaches (R21, R32, R33). -/
structure Unreached where
  b' : Byte
  c' : Byte
  d' : Byte
  e' : Byte
  h' : Byte
  l' : Byte
  ix : Word
  iy : Word
  i  : Byte
deriving DecidableEq, Repr

/-- `s` with other values in the registers no executed instruction reaches. -/
def State.withUnreached (s : State) (u : Unreached) : State :=
  { s with b' := u.b', c' := u.c', d' := u.d', e' := u.e', h' := u.h', l' := u.l', ix := u.ix, iy := u.iy, i := u.i }

/-- The values of the registers no executed instruction reaches. -/
def State.unreached (s : State) : Unreached where
  b' := s.b'
  c' := s.c'
  d' := s.d'
  e' := s.e'
  h' := s.h'
  l' := s.l'
  ix := s.ix
  iy := s.iy
  i := s.i

/-- A result with its next state changed by `g`. -/
def mapNext (g : State → State) (x : Result State) : Result State := andThen x fun s => .next (g s)

end Sys2Proof.Machine
end

