-- ==== Sys2Proof/Certificates/Slice0/Obligations.lean ====
section
/-! DEFINITION. The statements for the provers, by the numbered rules of spec/. An instruction's own statement is about
`exec`, which runs with PC past the instruction; `StepRunsTheDecodedInstruction` carries it to a step. `formOf` names
the rule and the operands of each of the 256 instructions, so a statement about a form is about every instruction of
that form. -/

open Sys2Proof Sys2Proof.Machine

/-! ### Reset and construction -/

/-- R260: what the reset procedure writes, whatever the draws, the parameters and the memory. -/
def Obligations.ResetWritesTheValuesOfTheSpec : Prop :=
  ∀ (p : Params) (draw : ResetDraw) (m : Memory),
    let s := State.afterReset p draw m
    s.pc = 0x0000 ∧ s.r = 0 ∧ s.f = 0x00 ∧ s.f' = 0x00 ∧ s.t = 0 ∧ s.halted = false ∧
    s.a = draw.a ∧ s.b = draw.b ∧ s.c = draw.c ∧ s.d = draw.d ∧ s.e = draw.e ∧ s.h = draw.h ∧ s.l = draw.l ∧
    s.a' = draw.a' ∧ s.b' = draw.b' ∧ s.c' = draw.c' ∧ s.d' = draw.d' ∧ s.e' = draw.e' ∧ s.h' = draw.h' ∧
    s.l' = draw.l' ∧ s.sp = draw.sp ∧ s.ix = draw.ix ∧ s.iy = draw.iy ∧ s.i = draw.i ∧ s.mem = m

/-- R261: construct maps the image from address 0, its length the extent, and refuses an image that is too long. -/
def Obligations.ConstructMapsTheImageFromAddressZero : Prop :=
  ∀ (p : Params) (draw : ResetDraw) (bytes : List Byte),
    (bytes.length ≤ 65536 →
      ∃ s, construct p draw bytes = .next s ∧ s = State.afterReset p draw s.mem ∧
        s.mem.size = bytes.length ∧ ∀ x, s.byteAt x = bytes[x]?) ∧
    (65536 < bytes.length → construct p draw bytes = .refused (.imageTooLong bytes.length))

/-- The invariant holds at `State.reset`. The extent there (log 10) and the canonical form of memory (log 11) are the
model's choices. -/
def Obligations.ResetStateMeetsTheInvariant : Prop := State.reset.wf = true

/-- The invariant holds of every constructed machine. The canonical form of memory in it is the model's own
representation (log 11, DESIGN CHOICE), which no rule of the spec gives. -/
def Obligations.ConstructedStateMeetsTheInvariant : Prop :=
  ∀ (p : Params) (draw : ResetDraw) (bytes : List Byte) (s : State),
    construct p draw bytes = .next s → s.wf = true

/-- Every step keeps the invariant: memory stays canonical, and a core is suspended only where HALT suspends. The first
half is about the model's own representation of memory (log 11, DESIGN CHOICE), which no rule of the spec gives; the
second is R36 with R215. -/
def Obligations.EveryStepKeepsTheInvariant : Prop :=
  ∀ s t : State, s.wf = true → step s = .next t → t.wf = true

/-! ### Encoding -/

/-- Decoding the encoding of a well-formed instruction gives it back, with the bytes after it untouched. -/
def Obligations.DecodeGivesBackEveryEncodedInstruction : Prop :=
  ∀ (i : Instr) (rest : List Byte), i.wf = true → decode (encode i ++ rest) = .ok (i, rest)

/-- What decodes is well formed, and its encoding is the bytes that were read: no two byte strings are one instruction. -/
def Obligations.EncodeGivesBackTheBytesDecoded : Prop :=
  ∀ (bytes rest : List Byte) (i : Instr),
    decode bytes = .ok (i, rest) → i.wf = true ∧ bytes = encode i ++ rest

/-- R79: the length is told from the opcode alone, and with enough bytes every opcode decodes. R79 speaks of 0x00-0xBF;
that no operand byte follows an opcode 0xC0-0xFF is R139's ("no operand is fetched"), and these are the executor's
lengths, not those R222 gives the display decoder. -/
def Obligations.LengthIsToldFromTheOpcode : Prop :=
  ∀ (op : Byte) (rest : List Byte),
    operandCount op =
      (if op.toNat ∈ [0x01, 0x11, 0x21, 0x31, 0x22, 0x2A, 0x32, 0x3A] then 2
       else if op.toNat ∈ [0x06, 0x0E, 0x16, 0x1E, 0x26, 0x2E, 0x36, 0x3E, 0x10, 0x18, 0x20, 0x28, 0x30, 0x38] then 1
       else 0) ∧
    (operandCount op ≤ rest.length →
      ∃ i, decode (op :: rest) = .ok (i, rest.drop (operandCount op)) ∧
        encode i = op :: rest.take (operandCount op)) ∧
    (rest.length < operandCount op → decode (op :: rest) = .error (.missingOperand op))

/-- Words written out from the patterns of their rules decode to the instructions they stand for: two or three of each
family, and one opcode 0xC0-0xFF. -/
def Obligations.WordsOfTheRulesDecode : Prop :=
  decode [0b00000001, 0x34, 0x12] = .ok (.ldBcNn 0x1234, []) ∧
  decode [0b00011000, 0xFE] = .ok (.jr (-2), []) ∧
  decode [0b00111110, 0x7F] = .ok (.ldAN 0x7F, []) ∧
  decode [0b00111100] = .ok (.incA, []) ∧
  decode [0b01111000] = .ok (.ldAB, []) ∧
  decode [0b01110110] = .ok (.halt, []) ∧
  decode [0b10001000] = .ok (.adcAB, []) ∧
  decode [0b10111110] = .ok (.cpMemHl, []) ∧
  decode [0b00011011] = .ok (.decDe, []) ∧
  decode [0b00111001] = .ok (.addHlSp, []) ∧
  decode [0b00001111] = .ok (.rrca, []) ∧
  decode [0b00100111] = .ok (.daa, []) ∧
  decode [0b11001001, 0x00] = .ok (.ret, [0x00])

/-! ### The step -/

/-- A step of a core that is not halted runs the instruction whose bytes stand at PC, with PC past them. -/
def Obligations.StepRunsTheDecodedInstruction : Prop :=
  ∀ (s : State) (i : Instr) (n : Nat) (bytes : List Byte),
    s.halted = false → s.bytesFrom s.pc n = some bytes → decode bytes = .ok (i, []) →
    step s = exec i { s with pc := s.pc + BitVec.ofNat 16 n }

/-- A halted core's step answers `Halted` and changes nothing, and so for ever (R141, R243). That any number of steps
runs to `.next s` is the model's choice (log 1, DESIGN CHOICE: the host's interface has no outcome `Halted`);
`HaltedIsFinal` says the rules in the spec's own outcomes. -/
def Obligations.HaltedCoreStaysHalted : Prop :=
  ∀ s : State, s.halted = true →
    report s = .halted ∧ observed s = s ∧ ∀ n, Host.Core.run Sys2Proof.core n s = .next s

/-- R132, R244: a fetch outside the extent faults, the opcode first, then the operand bytes in address order. -/
def Obligations.FetchOutsideTheExtentFaults : Prop :=
  ∀ s : State, s.halted = false →
    (s.byteAt s.pc.toNat = none → step s = .fault (.memFault s.pc .fetch)) ∧
    (∀ op, s.byteAt s.pc.toNat = some op → 1 ≤ operandCount op → s.byteAt (s.pc + 1).toNat = none →
      step s = .fault (.memFault (s.pc + 1) .fetch)) ∧
    (∀ op v, s.byteAt s.pc.toNat = some op → operandCount op = 2 → s.byteAt (s.pc + 1).toNat = some v →
      s.byteAt (s.pc + 2).toNat = none → step s = .fault (.memFault (s.pc + 2) .fetch))

/-- R139, R140: an opcode 0xC0-0xFF is refused in REFUSE mode, and in SKIP mode takes its opcode byte and an epilogue
of cost UNIMPL_TSTATES; its operand bytes are fetched in neither. A fault of the opcode fetch comes first. -/
def Obligations.OpcodesWithoutAGroupAreRefusedOrSkipped : Prop :=
  ∀ s : State, s.halted = false →
    (s.byteAt s.pc.toNat = none → step s = .fault (.memFault s.pc .fetch)) ∧
    ∀ op : Byte, s.byteAt s.pc.toNat = some op → 0xC0 ≤ op.toNat →
      (s.params.unimplMode = .refuse → step s = .refused (.unimplemented op) ∧ observed s = s) ∧
      (s.params.unimplMode = .skip →
        step s = .next { s with pc := s.pc + 1, t := s.t + s.params.unimplTStates, r := s.r + 1 })

/-- Each of the 64 instructions 0xC0-0xFF: its opcode, its completion in SKIP mode and its refusal in REFUSE mode. -/
def Obligations.UnimplementedInstructionsCompleteInSkipMode : Prop :=
  ∀ (i : Instr) (op : Byte) (s : State), formOf i = .unimpl op →
    encode i = [op] ∧ 0xC0 ≤ op.toNat ∧
    (s.params.unimplMode = .skip →
      exec i s = .next { s with t := s.t + s.params.unimplTStates, r := s.r + 1 }) ∧
    (s.params.unimplMode = .refuse → exec i s = .refused (.unimplemented op))

/-! ### Loads, stores and the exchange -/

/-- R210. -/
def Obligations.NopRunsTheEpilogueAlone : Prop :=
  ∀ (i : Instr) (s : State), formOf i = .nop →
    encode i = [0b00000000] ∧ CostIs 0x00 false 4 ∧
    ∃ t, exec i s = .next t ∧ OnlyCounters 0x00 false s t ∧ MemorySame s t

/-- R150. -/
def Obligations.LdPairImmediateWritesThePair : Prop :=
  ∀ (i : Instr) (p : Pair) (nn : Word) (s : State), formOf i = .ldPairNn p nn →
    let op : Byte := 0b00#2 ++ p.code ++ 0b0001#4
    encode i = [op, loByte nn, hiByte nn] ∧ CostIs op false 10 ∧
    ∃ t, exec i s = .next t ∧ OnlyPair op p nn s t

/-- R151, R152, R162. -/
def Obligations.StoresOfAWriteOneByte : Prop :=
  ∀ (i : Instr) (s : State), s.mem.wf = true →
    (formOf i = .ldMemBcA →
      encode i = [0b00000010] ∧ CostIs 0x02 false 7 ∧ StoresByte i 0x02 s.bc s.a s) ∧
    (formOf i = .ldMemDeA →
      encode i = [0b00010010] ∧ CostIs 0x12 false 7 ∧ StoresByte i 0x12 s.de s.a s) ∧
    (∀ nn, formOf i = .ldMemNnA nn →
      encode i = [0b00110010, loByte nn, hiByte nn] ∧ CostIs 0x32 false 13 ∧ StoresByte i 0x32 nn s.a s)

/-- R153, R154, R163. -/
def Obligations.LoadsOfAReadOneByte : Prop :=
  ∀ (i : Instr) (s : State),
    (formOf i = .ldAMemBc →
      encode i = [0b00001010] ∧ CostIs 0x0A false 7 ∧ LoadsByte i 0x0A .a s.bc s) ∧
    (formOf i = .ldAMemDe →
      encode i = [0b00011010] ∧ CostIs 0x1A false 7 ∧ LoadsByte i 0x1A .a s.de s) ∧
    (∀ nn, formOf i = .ldAMemNn nn →
      encode i = [0b00111010, loByte nn, hiByte nn] ∧ CostIs 0x3A false 13 ∧ LoadsByte i 0x3A .a nn s)

/-- R155. -/
def Obligations.LdRegisterImmediateWritesTheRegister : Prop :=
  ∀ (i : Instr) (r : Reg8) (n : Byte) (s : State), formOf i = .ldN (.reg r) n →
    let op : Byte := 0b00#2 ++ r.code ++ 0b110#3
    encode i = [op, n] ∧ CostIs op false 7 ∧ ∃ t, exec i s = .next t ∧ OnlyReg8 op r n s t

/-- R156. -/
def Obligations.LdMemoryImmediateStoresAtHl : Prop :=
  ∀ (i : Instr) (n : Byte) (s : State), formOf i = .ldN .memHl n → s.mem.wf = true →
    encode i = [0b00110110, n] ∧ CostIs 0x36 false 10 ∧ StoresByte i 0x36 s.hl n s

/-- R157. -/
def Obligations.LdRegisterRegisterCopies : Prop :=
  ∀ (i : Instr) (dst src : Reg8) (s : State), formOf i = .ld8 (.reg dst) (.reg src) →
    let op : Byte := 0b01#2 ++ dst.code ++ src.code
    encode i = [op] ∧ CostIs op false 4 ∧ ∃ t, exec i s = .next t ∧ OnlyReg8 op dst (s.reg8 src) s t

/-- R158: the address is the old HL, also when H or L is the destination. -/
def Obligations.LdRegisterMemoryLoadsAtHl : Prop :=
  ∀ (i : Instr) (dst : Reg8) (s : State), formOf i = .ld8 (.reg dst) .memHl →
    let op : Byte := 0b01#2 ++ dst.code ++ 0b110#3
    encode i = [op] ∧ CostIs op false 7 ∧ LoadsByte i op dst s.hl s

/-- R159. -/
def Obligations.LdMemoryRegisterStoresAtHl : Prop :=
  ∀ (i : Instr) (src : Reg8) (s : State), formOf i = .ld8 .memHl (.reg src) → s.mem.wf = true →
    let op : Byte := 0b01110#5 ++ src.code
    encode i = [op] ∧ CostIs op false 7 ∧ StoresByte i op s.hl (s.reg8 src) s

/-- R160: L at nn, H at nn + 1 mod 65536; the first address outside the extent is the one that faults. -/
def Obligations.LdMemoryHlStoresBothHalves : Prop :=
  ∀ (i : Instr) (nn : Word) (s : State), formOf i = .ldMemNnHl nn → s.mem.wf = true →
    encode i = [0b00100010, loByte nn, hiByte nn] ∧ CostIs 0x22 false 16 ∧
    (nn.toNat < s.mem.size → (nn + 1).toNat < s.mem.size →
      ∃ t, exec i s = .next t ∧ OnlyCounters 0x22 false { s with mem := t.mem } t ∧
        ∀ x, t.byteAt x =
          if x = nn.toNat then some s.l else if x = (nn + 1).toNat then some s.h else s.byteAt x) ∧
    (s.mem.size ≤ nn.toNat → exec i s = .fault (.memFault nn .write)) ∧
    (nn.toNat < s.mem.size → s.mem.size ≤ (nn + 1).toNat → exec i s = .fault (.memFault (nn + 1) .write))

/-- R161: L from nn, H from nn + 1 mod 65536. -/
def Obligations.LdHlMemoryLoadsBothHalves : Prop :=
  ∀ (i : Instr) (nn : Word) (s : State), formOf i = .ldHlMemNn nn →
    encode i = [0b00101010, loByte nn, hiByte nn] ∧ CostIs 0x2A false 16 ∧
    (∀ lo hi, s.byteAt nn.toNat = some lo → s.byteAt (nn + 1).toNat = some hi →
      ∃ t, exec i s = .next t ∧ t.l = lo ∧ t.h = hi ∧ MemorySame s t ∧
        OnlyCounters 0x2A false { s with h := t.h, l := t.l } t) ∧
    (s.mem.size ≤ nn.toNat → exec i s = .fault (.memFault nn .read)) ∧
    (nn.toNat < s.mem.size → s.mem.size ≤ (nn + 1).toNat → exec i s = .fault (.memFault (nn + 1) .read))

/-- R164: the two pairs change places, and executing it twice restores every register but the counters. -/
def Obligations.ExchangeSwapsAfAndItsShadow : Prop :=
  ∀ (i : Instr) (s : State), formOf i = .exAf →
    encode i = [0b00001000] ∧ CostIs 0x08 false 4 ∧
    ∃ t u, exec i s = .next t ∧ t.a = s.a' ∧ t.f = s.f' ∧ t.a' = s.a ∧ t.f' = s.f ∧ MemorySame s t ∧
      OnlyCounters 0x08 false { s with a := t.a, f := t.f, a' := t.a', f' := t.f' } t ∧
      exec i t = .next u ∧ u = { s with t := u.t, r := u.r }

/-! ### 16-bit arithmetic -/

/-- R170, R171: the pair steps by one mod 65536 and no flag is written. -/
def Obligations.IncAndDecPairStepThePair : Prop :=
  ∀ (i : Instr) (p : Pair) (s : State),
    (formOf i = .incPair p →
      let op : Byte := 0b00#2 ++ p.code ++ 0b0011#4
      encode i = [op] ∧ CostIs op false 6 ∧
      ∃ t, exec i s = .next t ∧ OnlyPair op p (t.pair p) s t ∧
        (t.pair p).toNat = ((s.pair p).toNat + 1) % 65536) ∧
    (formOf i = .decPair p →
      let op : Byte := 0b00#2 ++ p.code ++ 0b1011#4
      encode i = [op] ∧ CostIs op false 6 ∧
      ∃ t, exec i s = .next t ∧ OnlyPair op p (t.pair p) s t ∧
        ((t.pair p).toNat : Int) = ((s.pair p).toNat - 1 : Int) % 65536)

/-- R172. -/
def Obligations.AddHlAddsThePairAndKeepsSZPv : Prop :=
  ∀ (i : Instr) (p : Pair) (s : State), formOf i = .addHl p →
    let op : Byte := 0b00#2 ++ p.code ++ 0b1001#4
    let x := s.hl.toNat
    let y := (s.pair p).toNat
    encode i = [op] ∧ CostIs op false 11 ∧
    ∃ t, exec i s = .next t ∧ t.hl.toNat = (x + y) % 65536 ∧
      FlagsAre t.f (s.f.getLsbD 7) (s.f.getLsbD 6) (t.hl.getLsbD 13) (decide (x % 4096 + y % 4096 > 4095))
        (t.hl.getLsbD 11) (s.f.getLsbD 2) false (decide (x + y > 65535)) ∧
      MemorySame s t ∧ OnlyCounters op false { s with h := t.h, l := t.l, f := t.f } t

/-! ### 8-bit arithmetic and logic -/

/-- R180, R182: the register forms; C is preserved and F5, F3 come from where F35_SRC says (R102). -/
def Obligations.IncAndDecRegisterSetTheirFlags : Prop :=
  ∀ (i : Instr) (r : Reg8) (s : State),
    let v := s.reg8 r
    (formOf i = .inc (.reg r) →
      let op : Byte := 0b00#2 ++ r.code ++ 0b100#3
      encode i = [op] ∧ CostIs op false 4 ∧
      ∃ t, exec i s = .next t ∧ (t.reg8 r).toNat = (v.toNat + 1) % 256 ∧
        OnlyReg8 op r (t.reg8 r) { s with f := t.f } t ∧
        let w := t.reg8 r
        let x := if s.params.f35Src = .result then w else t.a
        FlagsAre t.f (w.getLsbD 7) (decide (w = 0)) (x.getLsbD 5) (decide (v.toNat % 16 = 15)) (x.getLsbD 3)
          (decide (w = 0x80)) false (s.f.getLsbD 0)) ∧
    (formOf i = .dec (.reg r) →
      let op : Byte := 0b00#2 ++ r.code ++ 0b101#3
      encode i = [op] ∧ CostIs op false 4 ∧
      ∃ t, exec i s = .next t ∧ ((t.reg8 r).toNat : Int) = (v.toNat - 1 : Int) % 256 ∧
        OnlyReg8 op r (t.reg8 r) { s with f := t.f } t ∧
        let w := t.reg8 r
        let x := if s.params.f35Src = .result then w else t.a
        FlagsAre t.f (w.getLsbD 7) (decide (w = 0)) (x.getLsbD 5) (decide (v.toNat % 16 = 0)) (x.getLsbD 3)
          (decide (w = 0x7F)) true (s.f.getLsbD 0))

/-- R181, R183: the memory forms read and write the byte at HL, and fault on the read outside the extent. -/
def Obligations.IncAndDecMemorySetTheirFlags : Prop :=
  ∀ (i : Instr) (s : State), s.mem.wf = true →
    (formOf i = .inc .memHl →
      encode i = [0b00110100] ∧ CostIs 0x34 false 11 ∧
      (s.mem.size ≤ s.hl.toNat → exec i s = .fault (.memFault s.hl .read)) ∧
      ∀ v, s.byteAt s.hl.toNat = some v →
        let w := BitVec.ofNat 8 (v.toNat + 1)
        let x := if s.params.f35Src = .result then w else s.a
        ∃ t, exec i s = .next t ∧ ByteStored s.hl w s t ∧
          OnlyCounters 0x34 false { s with mem := t.mem, f := t.f } t ∧
          FlagsAre t.f (w.getLsbD 7) (decide (w = 0)) (x.getLsbD 5) (decide (v.toNat % 16 = 15)) (x.getLsbD 3)
            (decide (w = 0x80)) false (s.f.getLsbD 0)) ∧
    (formOf i = .dec .memHl →
      encode i = [0b00110101] ∧ CostIs 0x35 false 11 ∧
      (s.mem.size ≤ s.hl.toNat → exec i s = .fault (.memFault s.hl .read)) ∧
      ∀ v, s.byteAt s.hl.toNat = some v →
        let w := BitVec.ofNat 8 (v.toNat + 255)
        let x := if s.params.f35Src = .result then w else s.a
        ∃ t, exec i s = .next t ∧ ByteStored s.hl w s t ∧
          OnlyCounters 0x35 false { s with mem := t.mem, f := t.f } t ∧
          FlagsAre t.f (w.getLsbD 7) (decide (w = 0)) (x.getLsbD 5) (decide (v.toNat % 16 = 0)) (x.getLsbD 3)
            (decide (w = 0x7F)) true (s.f.getLsbD 0))

/-- R185, R186: the sum `A + s` or `A + s + C`, every flag that of the whole sum. -/
def Obligations.AddAndAdcSetTheFlagsOfTheWholeSum : Prop :=
  ∀ (i : Instr) (f : AluOp) (o : Operand8) (s : State), formOf i = .alu f o → f = .add ∨ f = .adc →
    let op : Byte := 0b10#2 ++ f.code ++ o.code
    encode i = [op] ∧ CostIs op false (aluCost o) ∧
    (s.operand? o = none → exec i s = .fault (.memFault s.hl .read)) ∧
    ∀ v, s.operand? o = some v →
      let a := s.a
      let cin := if f = .adc then (s.f.getLsbD 0).toNat else 0
      let sum := a.toNat + v.toNat + cin
      let exact : Int := a.toInt + v.toInt + cin
      ∃ t, exec i s = .next t ∧ t.a.toNat = sum % 256 ∧ OnlyAF op s t ∧
        FlagsAre t.f (t.a.getLsbD 7) (decide (t.a = 0)) (t.a.getLsbD 5)
          (decide (a.toNat % 16 + v.toNat % 16 + cin > 15)) (t.a.getLsbD 3)
          (decide (exact < -128 ∨ exact > 127)) false (decide (sum > 255))

/-- R187, R188: the difference `A - s` or `A - s - C`, every flag that of the whole difference. -/
def Obligations.SubAndSbcSetTheFlagsOfTheWholeDifference : Prop :=
  ∀ (i : Instr) (f : AluOp) (o : Operand8) (s : State), formOf i = .alu f o → f = .sub ∨ f = .sbc →
    let op : Byte := 0b10#2 ++ f.code ++ o.code
    encode i = [op] ∧ CostIs op false (aluCost o) ∧
    (s.operand? o = none → exec i s = .fault (.memFault s.hl .read)) ∧
    ∀ v, s.operand? o = some v →
      let a := s.a
      let cin : Int := if f = .sbc then (s.f.getLsbD 0).toNat else 0
      let diff : Int := a.toNat - v.toNat - cin
      let exact : Int := a.toInt - v.toInt - cin
      ∃ t, exec i s = .next t ∧ (t.a.toNat : Int) = diff % 256 ∧ OnlyAF op s t ∧
        FlagsAre t.f (t.a.getLsbD 7) (decide (t.a = 0)) (t.a.getLsbD 5)
          (decide ((a.toNat : Int) % 16 - (v.toNat : Int) % 16 - cin < 0)) (t.a.getLsbD 3)
          (decide (exact < -128 ∨ exact > 127)) true (decide (diff < 0))

/-- R189, R190, R191: bit by bit, PV the parity of the result, C and N cleared, H set by AND alone. -/
def Obligations.LogicWorksBitByBit : Prop :=
  ∀ (i : Instr) (f : AluOp) (o : Operand8) (s : State), formOf i = .alu f o → f = .and ∨ f = .xor ∨ f = .or →
    let op : Byte := 0b10#2 ++ f.code ++ o.code
    encode i = [op] ∧ CostIs op false (aluCost o) ∧
    (s.operand? o = none → exec i s = .fault (.memFault s.hl .read)) ∧
    ∀ v, s.operand? o = some v →
      ∃ t, exec i s = .next t ∧ OnlyAF op s t ∧
        (∀ k, t.a.getLsbD k =
          if f = .and then s.a.getLsbD k && v.getLsbD k
          else if f = .xor then xor (s.a.getLsbD k) (v.getLsbD k)
          else s.a.getLsbD k || v.getLsbD k) ∧
        FlagsAre t.f (t.a.getLsbD 7) (decide (t.a = 0)) (t.a.getLsbD 5) (decide (f = .and)) (t.a.getLsbD 3)
          (decide (((List.range 8).filter fun k => t.a.getLsbD k).length % 2 = 0)) false false

/-- R192: the flags of SUB, A unchanged, F5 and F3 from the discarded difference or from A (R102). -/
def Obligations.CompareSetsFlagsOnly : Prop :=
  ∀ (i : Instr) (o : Operand8) (s : State), formOf i = .cp o →
    let op : Byte := 0b10111#5 ++ o.code
    encode i = [op] ∧ CostIs op false (aluCost o) ∧
    (s.operand? o = none → exec i s = .fault (.memFault s.hl .read)) ∧
    ∀ v, s.operand? o = some v →
      let a := s.a
      let w := BitVec.ofInt 8 ((a.toNat : Int) - v.toNat)
      let exact : Int := a.toInt - v.toInt
      let x := if s.params.f35Src = .result then w else a
      ∃ t, exec i s = .next t ∧ MemorySame s t ∧ OnlyCounters op false { s with f := t.f } t ∧
        FlagsAre t.f (w.getLsbD 7) (decide (a = v)) (x.getLsbD 5) (decide (a.toNat % 16 < v.toNat % 16))
          (x.getLsbD 3) (decide (exact < -128 ∨ exact > 127)) true (decide (a.toNat < v.toNat))

/-! ### The accumulator group -/

/-- R200, R201: the circular rotates; S, Z and PV are preserved. -/
def Obligations.RlcaAndRrcaRotateA : Prop :=
  ∀ (i : Instr) (s : State),
    (formOf i = .acc .rlca →
      encode i = [0b00000111] ∧ CostIs 0x07 false 4 ∧
      ∃ t, exec i s = .next t ∧ OnlyAF 0x07 s t ∧
        (∀ k, k < 8 → t.a.getLsbD ((k + 1) % 8) = s.a.getLsbD k) ∧
        FlagsAre t.f (s.f.getLsbD 7) (s.f.getLsbD 6) (t.a.getLsbD 5) false (t.a.getLsbD 3) (s.f.getLsbD 2) false
          (s.a.getLsbD 7)) ∧
    (formOf i = .acc .rrca →
      encode i = [0b00001111] ∧ CostIs 0x0F false 4 ∧
      ∃ t, exec i s = .next t ∧ OnlyAF 0x0F s t ∧
        (∀ k, k < 8 → t.a.getLsbD k = s.a.getLsbD ((k + 1) % 8)) ∧
        FlagsAre t.f (s.f.getLsbD 7) (s.f.getLsbD 6) (t.a.getLsbD 5) false (t.a.getLsbD 3) (s.f.getLsbD 2) false
          (s.a.getLsbD 0))

/-- R202, R203: the rotates through C; S, Z and PV are preserved. -/
def Obligations.RlaAndRraRotateAThroughC : Prop :=
  ∀ (i : Instr) (s : State),
    (formOf i = .acc .rla →
      encode i = [0b00010111] ∧ CostIs 0x17 false 4 ∧
      ∃ t, exec i s = .next t ∧ OnlyAF 0x17 s t ∧ t.a.getLsbD 0 = s.f.getLsbD 0 ∧
        (∀ k, k < 7 → t.a.getLsbD (k + 1) = s.a.getLsbD k) ∧
        FlagsAre t.f (s.f.getLsbD 7) (s.f.getLsbD 6) (t.a.getLsbD 5) false (t.a.getLsbD 3) (s.f.getLsbD 2) false
          (s.a.getLsbD 7)) ∧
    (formOf i = .acc .rra →
      encode i = [0b00011111] ∧ CostIs 0x1F false 4 ∧
      ∃ t, exec i s = .next t ∧ OnlyAF 0x1F s t ∧ t.a.getLsbD 7 = s.f.getLsbD 0 ∧
        (∀ k, k < 7 → t.a.getLsbD k = s.a.getLsbD (k + 1)) ∧
        FlagsAre t.f (s.f.getLsbD 7) (s.f.getLsbD 6) (t.a.getLsbD 5) false (t.a.getLsbD 3) (s.f.getLsbD 2) false
          (s.a.getLsbD 0))

/-- R204 with the function of R116: the correction, added or subtracted as N says; N is preserved. -/
def Obligations.DaaCorrectsA : Prop :=
  ∀ (i : Instr) (s : State), formOf i = .acc .daa →
    let a := s.a.toNat
    let lo := a % 16
    let n := s.f.getLsbD 1
    let h := s.f.getLsbD 4
    let c := s.f.getLsbD 0
    let low : Int := if h = true ∨ lo > 9 then 0x06 else 0
    let high : Int := if c = true ∨ a > 0x99 then 0x60 else 0
    encode i = [0b00100111] ∧ CostIs 0x27 false 4 ∧
    ∃ t, exec i s = .next t ∧ OnlyAF 0x27 s t ∧
      (t.a.toNat : Int) = (if n then (a : Int) - (low + high) else a + (low + high)) % 256 ∧
      FlagsAre t.f (t.a.getLsbD 7) (decide (t.a = 0)) (t.a.getLsbD 5)
        (if n then h && decide (lo < 6) else decide (lo > 9)) (t.a.getLsbD 3)
        (decide (((List.range 8).filter fun k => t.a.getLsbD k).length % 2 = 0)) n (c || decide (a > 0x99))

/-- R205, R206, R207. -/
def Obligations.CplScfCcfSetTheirFlags : Prop :=
  ∀ (i : Instr) (s : State),
    (formOf i = .acc .cpl →
      encode i = [0b00101111] ∧ CostIs 0x2F false 4 ∧
      ∃ t, exec i s = .next t ∧ OnlyAF 0x2F s t ∧ (∀ k, k < 8 → t.a.getLsbD k = !s.a.getLsbD k) ∧
        FlagsAre t.f (s.f.getLsbD 7) (s.f.getLsbD 6) (t.a.getLsbD 5) true (t.a.getLsbD 3) (s.f.getLsbD 2) true
          (s.f.getLsbD 0)) ∧
    (formOf i = .acc .scf →
      encode i = [0b00110111] ∧ CostIs 0x37 false 4 ∧
      ∃ t, exec i s = .next t ∧ OnlyAF 0x37 s t ∧ t.a = s.a ∧
        FlagsAre t.f (s.f.getLsbD 7) (s.f.getLsbD 6) (s.a.getLsbD 5) false (s.a.getLsbD 3) (s.f.getLsbD 2) false
          true) ∧
    (formOf i = .acc .ccf →
      encode i = [0b00111111] ∧ CostIs 0x3F false 4 ∧
      ∃ t, exec i s = .next t ∧ OnlyAF 0x3F s t ∧ t.a = s.a ∧
        FlagsAre t.f (s.f.getLsbD 7) (s.f.getLsbD 6) (s.a.getLsbD 5) (s.f.getLsbD 0) (s.a.getLsbD 3)
          (s.f.getLsbD 2) false (!s.f.getLsbD 0))

/-! ### Control -/

/-- R212 with R211: B is decremented without a flag, and the branch is taken while it is not 0. -/
def Obligations.DjnzDecrementsBAndBranches : Prop :=
  ∀ (i : Instr) (d : Int) (s : State), formOf i = .djnz d →
    encode i = [0b00010000, byteOfDisp d] ∧ CostIs 0x10 true 13 ∧ CostIs 0x10 false 8 ∧
    ∃ t, exec i s = .next t ∧ (t.b.toNat : Int) = (s.b.toNat - 1 : Int) % 256 ∧ MemorySame s t ∧
      (s.b ≠ 1 → (t.pc.toNat : Int) = (s.pc.toNat + d) % 65536 ∧
        OnlyCounters 0x10 true { s with b := t.b, pc := t.pc } t) ∧
      (s.b = 1 → OnlyCounters 0x10 false { s with b := t.b } t)

/-- R213 with R211. -/
def Obligations.JrJumpsRelative : Prop :=
  ∀ (i : Instr) (d : Int) (s : State), formOf i = .jr d →
    encode i = [0b00011000, byteOfDisp d] ∧ CostIs 0x18 false 12 ∧
    ∃ t, exec i s = .next t ∧ (t.pc.toNat : Int) = (s.pc.toNat + d) % 65536 ∧ MemorySame s t ∧
      OnlyCounters 0x18 false { s with pc := t.pc } t

/-- R214 with R29 and R211: NZ and Z test bit 6 of F, NC and C bit 0. -/
def Obligations.JrCcJumpsWhenItsConditionHolds : Prop :=
  ∀ (i : Instr) (cc : Cond) (d : Int) (s : State), formOf i = .jrCc cc d →
    let op : Byte := 0b001#3 ++ cc.code ++ 0b000#3
    let holds : Bool := match cc with
      | .nz => s.f.getLsbD 6 == false
      | .z => s.f.getLsbD 6 == true
      | .nc => s.f.getLsbD 0 == false
      | .c => s.f.getLsbD 0 == true
    encode i = [op, byteOfDisp d] ∧ CostIs op true 12 ∧ CostIs op false 7 ∧
    ∃ t, exec i s = .next t ∧ MemorySame s t ∧
      (holds = true → (t.pc.toNat : Int) = (s.pc.toNat + d) % 65536 ∧
        OnlyCounters op true { s with pc := t.pc } t) ∧
      (holds = false → OnlyCounters op false s t)

/-- R215: HALT suspends the core where HALT_SUSPENDS, and from the next step on every step returns `Halted`; it is a
no-op where not; its epilogue runs. -/
def Obligations.HaltSuspendsTheCore : Prop :=
  ∀ (i : Instr) (s : State), formOf i = .halt →
    encode i = [0b01110110] ∧ CostIs 0x76 false 4 ∧
    ∃ t, exec i s = .next t ∧ MemorySame s t ∧
      (s.params.haltSuspends = true →
        t.halted = true ∧ OnlyCounters 0x76 false { s with halted := true } t ∧
          ∀ n, report (observed^[n] t) = .halted) ∧
      (s.params.haltSuspends = false → OnlyCounters 0x76 false s t)

/-! ### The whole machine -/

/-- R241: a step faults only for an address outside the extent, so with the whole address space backed it never does. -/
def Obligations.FaultsAreAccessesOutsideTheExtent : Prop :=
  ∀ (s : State) (r : Fault), step s = .fault r →
    (∃ addr kind, r = .memFault addr kind ∧ s.mem.size ≤ addr.toNat) ∧ s.mem.size < 65536 ∧ observed s = s

/-- R242: a step is refused exactly for an opcode 0xC0-0xFF fetched at PC in REFUSE mode. -/
def Obligations.RefusalsAreUnimplementedOpcodes : Prop :=
  ∀ (s : State) (r : Refusal),
    (step s = .refused r ↔
      s.halted = false ∧ s.params.unimplMode = .refuse ∧
        ∃ op, r = .unimplemented op ∧ 0xC0 ≤ op.toNat ∧ s.byteAt s.pc.toNat = some op) ∧
    (step s = .refused r → observed s = s)

/-- R32, R33 (and R21 for the shadows of BC, DE, HL): no step reads or writes B' to L', IX, IY or I. -/
def Obligations.UnreachedRegistersAreNeitherReadNorWritten : Prop :=
  ∀ (s : State) (u : Unreached),
    step (s.withUnreached u) = mapNext (fun t => t.withUnreached u) (step s) ∧
    ∀ t, step s = .next t → t.unreached = s.unreached

/-- R249: a step that executes an instruction adds one to R mod 128 and the cost of its opcode to T; and no step reads R
or T: with others in them, every step, whether it completes, is a halted core's, faults or is refused, answers the same
outcome, but for the counters of the state it answers. -/
def Obligations.CountersAdvanceAndAreNotRead : Prop :=
  (∀ s t : State, s.halted = false → step s = .next t →
    t.r.toNat = (s.r.toNat + 1) % 128 ∧
    ∃ op, s.byteAt s.pc.toNat = some op ∧
      (op.toNat < 0xC0 → ∃ taken, t.t = s.t + s.params.tstate op taken) ∧
      (0xC0 ≤ op.toNat → t.t = s.t + s.params.unimplTStates)) ∧
  ∀ (s : State) (r : BitVec 7) (n : Nat),
    step { s with r := r, t := n } =
      mapNext (fun t => { t with r := r + (t.r - s.r), t := n + (t.t - s.t) }) (step s)

/-- R56: an instruction changes no byte but those its rule stores to, and never the extent. -/
def Obligations.InstructionsStoreOnlyWhereTheirRuleSays : Prop :=
  ∀ (i : Instr) (s t : State), s.mem.wf = true → exec i s = .next t →
    t.mem.size = s.mem.size ∧ ∀ x, x ∉ storedAddresses (formOf i) s → t.byteAt x = s.byteAt x

/-- R241, R244: an instruction completes exactly when every address its rule accesses is within the extent, and else
faults at the first that is not; only an opcode 0xC0-0xFF in REFUSE mode does neither. -/
def Obligations.InstructionsCompleteWhereTheirAccessesExist : Prop :=
  ∀ (i : Instr) (s : State), (∀ op, formOf i = .unimpl op → s.params.unimplMode = .skip) →
    ((∀ x ∈ dataAccesses (formOf i) s, x.1.toNat < s.mem.size) → ∃ t, exec i s = .next t) ∧
    (∀ before addr kind after, dataAccesses (formOf i) s = before ++ (addr, kind) :: after →
      (∀ x ∈ before, x.1.toNat < s.mem.size) → s.mem.size ≤ addr.toNat →
      exec i s = .fault (.memFault addr kind))

/-- The column "written by" of R41, for PC, SP, F, A' and F': no other instruction changes them. The halted state, which
that table does not list, is R36's: HALT alone sets it. That none changes a parameter is about the model's own field
(log 2, DESIGN CHOICE). -/
def Obligations.SpecialRegistersAreWrittenOnlyByTheirInstructions : Prop :=
  ∀ (i : Instr) (s t : State), exec i s = .next t →
    (t.pc ≠ s.pc → (∃ d, formOf i = .djnz d) ∨ (∃ d, formOf i = .jr d) ∨ ∃ cc d, formOf i = .jrCc cc d) ∧
    (t.sp ≠ s.sp → (∃ nn, formOf i = .ldPairNn .sp nn) ∨ formOf i = .incPair .sp ∨ formOf i = .decPair .sp) ∧
    (t.f ≠ s.f → formOf i = .exAf ∨ (∃ p, formOf i = .addHl p) ∨ (∃ o, formOf i = .inc o) ∨
      (∃ o, formOf i = .dec o) ∨ (∃ a, formOf i = .acc a) ∨ (∃ f o, formOf i = .alu f o) ∨ ∃ o, formOf i = .cp o) ∧
    (t.a' ≠ s.a' ∨ t.f' ≠ s.f' → formOf i = .exAf) ∧
    (t.halted ≠ s.halted → formOf i = .halt) ∧
    t.params = s.params

/-- A read gives the byte last stored at its address, and a store changes that byte alone (R57). That a store keeps the
canonical form, and that memories are the same data when no byte changed, is about the model's own representation
(log 11, DESIGN CHOICE). -/
def Obligations.ReadGivesTheByteLastStored : Prop :=
  ∀ (m : Memory) (addr : Nat) (v : Byte), m.wf = true → addr < m.size →
    ∃ m', m.write addr v = some m' ∧ m'.wf = true ∧ m'.size = m.size ∧ m'.read addr = some v ∧
      (∀ x, x ≠ addr → m'.read x = m.read x) ∧ (m.read addr = some v → m' = m)

/-- A word placed by `withFetchWord` is what the next step runs (log 12, 13). -/
def Obligations.PlacedWordIsTheNextInstruction : Prop :=
  ∀ (s : State) (nbits w : Nat) (i : Instr), s.mem.wf = true → decodeTableWord nbits w = some i →
    step (s.withFetchWord nbits w) =
      exec i { s.withFetchWord nbits w with pc := s.pc + BitVec.ofNat 16 (encode i).length }

/-- R22: a pair is its halves joined, and writing it writes the halves. -/
def Obligations.PairsAreTheirHalves : Prop :=
  ∀ (s : State) (p q : Pair) (v : Word),
    s.af.toNat = s.a.toNat * 256 + s.f.toNat ∧ s.bc.toNat = s.b.toNat * 256 + s.c.toNat ∧
    s.de.toNat = s.d.toNat * 256 + s.e.toNat ∧ s.hl.toNat = s.h.toNat * 256 + s.l.toNat ∧
    s.af'.toNat = s.a'.toNat * 256 + s.f'.toNat ∧ s.bc'.toNat = s.b'.toNat * 256 + s.c'.toNat ∧
    s.de'.toNat = s.d'.toNat * 256 + s.e'.toNat ∧ s.hl'.toNat = s.h'.toNat * 256 + s.l'.toNat ∧
    (s.setPair p v).pair q = (if q = p then v else s.pair q)

/-- R24: the flags byte and its eight flags are the same state, each flag at its bit. -/
def Obligations.FlagsByteHoldsTheEightFlags : Prop :=
  ∀ (x : Flags) (f : Byte),
    FlagsAre x.toByte x.s x.z x.f5 x.h x.f3 x.pv x.n x.c ∧ (Flags.ofByte f).toByte = f

/-- R117: the flags of a subtraction without carry in are those of the two's-complement sum with the negated operand,
and the 9-bit overflow test of an addition is the range test. -/
def Obligations.SubtractionFlagsAreThoseOfTheNegatedSum : Prop :=
  ∀ (a b : Byte) (cin : Bool),
    let full : Int := a.toNat - b.toNat
    let nibble : Int := (a.toNat : Int) % 16 - (b.toNat : Int) % 16
    let signed : Int := a.toInt - b.toInt
    let sum : Int := a.toInt + b.toInt + cin.toNat
    (sub8 a b false).flags.c = decide (full % 512 ≥ 256) ∧
    (sub8 a b false).flags.h = decide (nibble % 32 ≥ 16) ∧
    (sub8 a b false).flags.pv = xor (decide (signed % 512 ≥ 256)) (decide (signed % 256 ≥ 128)) ∧
    (add8 a b cin).flags.pv = xor (decide (sum % 512 ≥ 256)) (decide (sum % 256 ≥ 128))

/-- R186's last sentence: adding C to the operand first gives the same A, and other flags exactly when C = 1 and the
operand ends in 15. -/
def Obligations.PreAddedCarryDiffersExactlyAtLowNibbleFifteen : Prop :=
  ∀ (a v : Byte) (c : Bool),
    (add8 a v c).value = (add8 a (v + BitVec.ofNat 8 c.toNat) false).value ∧
    ((add8 a v c).flags ≠ (add8 a (v + BitVec.ofNat 8 c.toNat) false).flags ↔ c = true ∧ v.toNat % 16 = 15)

/-- ADD A,B (R185 by R104) then DAA (R204 by R116) adds decimal numbers: for two-digit operands the result is their sum
mod 100, C its hundreds. -/
def Obligations.AddThenDaaAddsDecimal : Prop :=
  ∀ (s : State) (x y : Nat), x < 100 → y < 100 → s.a = bcd x → s.b = bcd y →
    ∃ t u, exec .addAB s = .next t ∧ exec .daa t = .next u ∧ u.a = bcd ((x + y) % 100) ∧
      u.f.getLsbD 0 = decide (x + y ≥ 100)

/-! ### The display decoder -/

/-- R222, R79: for an opcode 0x00-0xBF the display decoder's length is the executor's. -/
def Obligations.DisplayLengthIsTheExecutorsLength : Prop :=
  ∀ op : Byte, op.toNat < 0xC0 → displayLength op = 1 + operandCount op

/-- R224, R225, R226: past the end, and for an instruction that runs past the end on integers, the decoder answers the
unrecognized text; it keeps the length of the opcode, and its bytes are those that exist. -/
def Obligations.DisplayDoesNotReadPastTheEnd : Prop :=
  ∀ (p : Params) (m : Memory) (addr : Word),
    (m.size ≤ addr.toNat → display p m addr = { text := p.unrecText, bytes := [], length := 1 }) ∧
    ∀ op, m.read addr.toNat = some op →
      let x := display p m addr
      x.length = displayLength op ∧
      (m.size < addr.toNat + displayLength op →
        x.text = p.unrecText ∧ x.bytes.length = m.size - addr.toNat) ∧
      (addr.toNat + displayLength op ≤ m.size → x.bytes.length = displayLength op) ∧
      ∀ k v, x.bytes[k]? = some v → m.read (addr.toNat + k) = some v

/-! ### The halted state in the spec's outcomes -/

/-- R141, R243: a step of a halted core returns `Halted` and changes nothing, and this is final. `observed` is the state
a reader observes after a step. -/
def Obligations.HaltedIsFinal : Prop :=
  ∀ (s : State) (n : Nat), s.halted = true → observed^[n] s = s ∧ report (observed^[n] s) = .halted
end

