-- ==== Sys2Proof/Laws/Flags.lean ====
section
/-! SUPPORT. The flags byte and its eight flags (R24). -/

namespace Sys2Proof.Machine

@[simp] theorem toByte_getElem_0 (x : Flags) : x.toByte[0] = x.c := by
  rcases x with ⟨_ | _, _ | _, _ | _, _ | _, _ | _, _ | _, _ | _, _ | _⟩ <;> rfl

@[simp] theorem toByte_getElem_1 (x : Flags) : x.toByte[1] = x.n := by
  rcases x with ⟨_ | _, _ | _, _ | _, _ | _, _ | _, _ | _, _ | _, _ | _⟩ <;> rfl

@[simp] theorem toByte_getElem_2 (x : Flags) : x.toByte[2] = x.pv := by
  rcases x with ⟨_ | _, _ | _, _ | _, _ | _, _ | _, _ | _, _ | _, _ | _⟩ <;> rfl

@[simp] theorem toByte_getElem_3 (x : Flags) : x.toByte[3] = x.f3 := by
  rcases x with ⟨_ | _, _ | _, _ | _, _ | _, _ | _, _ | _, _ | _, _ | _⟩ <;> rfl

@[simp] theorem toByte_getElem_4 (x : Flags) : x.toByte[4] = x.h := by
  rcases x with ⟨_ | _, _ | _, _ | _, _ | _, _ | _, _ | _, _ | _, _ | _⟩ <;> rfl

@[simp] theorem toByte_getElem_5 (x : Flags) : x.toByte[5] = x.f5 := by
  rcases x with ⟨_ | _, _ | _, _ | _, _ | _, _ | _, _ | _, _ | _, _ | _⟩ <;> rfl

@[simp] theorem toByte_getElem_6 (x : Flags) : x.toByte[6] = x.z := by
  rcases x with ⟨_ | _, _ | _, _ | _, _ | _, _ | _, _ | _, _ | _, _ | _⟩ <;> rfl

@[simp] theorem toByte_getElem_7 (x : Flags) : x.toByte[7] = x.s := by
  rcases x with ⟨_ | _, _ | _, _ | _, _ | _, _ | _, _ | _, _ | _, _ | _⟩ <;> rfl

/-- The eight flags are the flags of the byte that holds them. -/
@[simp] theorem ofByte_toByte (x : Flags) : Flags.ofByte x.toByte = x := by
  simp [Flags.ofByte]

/-- A flags byte written from flags holds them. -/
theorem flagsAre_toByte {x : Flags} {s z f5 h f3 pv n c : Bool} :
    FlagsAre x.toByte s z f5 h f3 pv n c ↔
      x.s = s ∧ x.z = z ∧ x.f5 = f5 ∧ x.h = h ∧ x.f3 = f3 ∧ x.pv = pv ∧ x.n = n ∧ x.c = c := by
  simp [FlagsAre]

/-- Parity counts the set bits (R101). -/
theorem parity_eq_count (v : Byte) :
    parity v = decide (((List.range 8).filter fun k => v.getLsbD k).length % 2 = 0) := by
  simp only [parity, List.range, List.range.loop, List.filter]
  cases v.getLsbD 0 <;> cases v.getLsbD 1 <;> cases v.getLsbD 2 <;> cases v.getLsbD 3 <;>
    cases v.getLsbD 4 <;> cases v.getLsbD 5 <;> cases v.getLsbD 6 <;> cases v.getLsbD 7 <;> rfl

end Sys2Proof.Machine
end

