-- ==== Sys2Proof/Laws/Memory.lean ====
section
/-! SUPPORT. The laws of memory: what a read gives after a write (R57), and that every memory operation keeps the
canonical form. -/

namespace Sys2Proof.Machine

/-! ### Cell lists -/

theorem cellsWf_mono {size : Nat} {cells : List Host.Cell} {lo lo' : Nat} (h : cellsWf size cells lo = true)
    (hlo : lo' ≤ lo) : cellsWf size cells lo' = true := by
  cases cells with
  | nil => rfl
  | cons cell rest =>
    obtain ⟨k, w⟩ := cell
    simp only [cellsWf, Bool.and_eq_true, decide_eq_true_eq] at h ⊢
    exact ⟨⟨⟨by omega, h.1.1.2⟩, h.1.2⟩, h.2⟩

theorem cellsWf_size {size size' : Nat} {cells : List Host.Cell} {lo : Nat} (h : cellsWf size cells lo = true)
    (hs : size ≤ size') : cellsWf size' cells lo = true := by
  induction cells generalizing lo with
  | nil => rfl
  | cons cell rest ih =>
    obtain ⟨k, w⟩ := cell
    simp only [cellsWf, Bool.and_eq_true, decide_eq_true_eq] at h ⊢
    exact ⟨⟨⟨h.1.1.1, by omega⟩, h.1.2⟩, ih h.2⟩

/-- A cell list lists no address below its bound. -/
theorem cellsGet_below {size : Nat} {cells : List Host.Cell} {lo x : Nat} (h : cellsWf size cells lo = true)
    (hx : x < lo) : cellsGet cells x = Memory.unlisted := by
  induction cells generalizing lo with
  | nil => rfl
  | cons cell rest ih =>
    obtain ⟨k, w⟩ := cell
    simp only [cellsWf, Bool.and_eq_true, decide_eq_true_eq] at h
    rw [cellsGet, if_neg (by omega), ih h.2 (by omega)]

/-- What a byte reads as after a store. -/
theorem cellsGet_cellsSet {size : Nat} {cells : List Host.Cell} {lo : Nat} (h : cellsWf size cells lo = true)
    (x y : Nat) (v : Byte) : cellsGet (cellsSet cells x v) y = if y = x then v else cellsGet cells y := by
  induction cells generalizing lo with
  | nil =>
    by_cases hv : v = Memory.unlisted <;> by_cases hy : x = y <;>
      simp [cellsSet, cellsGet, hv, hy, Ne.symm]
  | cons cell rest ih =>
    obtain ⟨k, w⟩ := cell
    simp only [cellsWf, Bool.and_eq_true, decide_eq_true_eq] at h
    have below : ∀ z, z < k + 1 → cellsGet rest z = Memory.unlisted := fun z hz => cellsGet_below h.2 hz
    rcases Nat.lt_trichotomy x k with hx | rfl | hx
    · by_cases hv : v = Memory.unlisted <;> by_cases hy : y = x
      · simp [cellsSet, cellsGet, hx, hv, hy, below x (by omega), Nat.ne_of_gt hx]
      · simp [cellsSet, hx, hv, hy]
      · simp [cellsSet, cellsGet, hx, hv, hy]
      · simp [cellsSet, cellsGet, hx, hv, hy, Ne.symm hy]
    · by_cases hv : v = Memory.unlisted <;> by_cases hy : y = x
      · simp [cellsSet, hv, hy, below x (by omega)]
      · simp [cellsSet, cellsGet, hv, hy, Ne.symm hy]
      · simp [cellsSet, cellsGet, hv, hy]
      · simp [cellsSet, cellsGet, hv, hy, Ne.symm hy]
    · have hxk : ¬ x < k := by omega
      have hne : x ≠ k := by omega
      by_cases hk : k = y
      · subst hk; simp [cellsSet, cellsGet, hxk, hne, Ne.symm hne]
      · simp [cellsSet, cellsGet, hxk, hne, hk, ih h.2]

/-- A store within the extent keeps a cell list canonical. -/
theorem cellsSet_wf {size : Nat} {cells : List Host.Cell} {lo x : Nat} (h : cellsWf size cells lo = true)
    (hlo : lo ≤ x) (hx : x < size) (v : Byte) : cellsWf size (cellsSet cells x v) lo = true := by
  induction cells generalizing lo with
  | nil => by_cases hv : v = Memory.unlisted <;> simp [cellsSet, cellsWf, hv, hlo, hx]
  | cons cell rest ih =>
    obtain ⟨k, w⟩ := cell
    have h0 := h
    simp only [cellsWf, Bool.and_eq_true, decide_eq_true_eq] at h
    obtain ⟨⟨⟨h1, h2⟩, h3⟩, h4⟩ := h
    rcases Nat.lt_trichotomy x k with hk | rfl | hk
    · by_cases hv : v = Memory.unlisted
      · simpa [cellsSet, hk, hv] using h0
      · simp [cellsSet, cellsWf, hk, hv, hlo, hx, h2, h3, h4, Nat.succ_le_of_lt hk]
    · by_cases hv : v = Memory.unlisted
      · simpa [cellsSet, hv] using cellsWf_mono h4 (by omega)
      · simp [cellsSet, cellsWf, hv, hlo, hx, h4]
    · have hxk : ¬ x < k := by omega
      have hne : x ≠ k := by omega
      simp [cellsSet, cellsWf, hxk, hne, h1, h2, h3, ih h4 (by omega)]

/-- Storing the byte an address already reads as changes nothing: equal memories are equal data. -/
theorem cellsSet_same {size : Nat} {cells : List Host.Cell} {lo : Nat} (h : cellsWf size cells lo = true) (x : Nat) :
    cellsSet cells x (cellsGet cells x) = cells := by
  induction cells generalizing lo with
  | nil => simp [cellsSet, cellsGet]
  | cons cell rest ih =>
    obtain ⟨k, w⟩ := cell
    simp only [cellsWf, Bool.and_eq_true, decide_eq_true_eq] at h
    obtain ⟨⟨-, h3⟩, h4⟩ := h
    rcases Nat.lt_trichotomy x k with hk | rfl | hk
    · have below : cellsGet rest x = Memory.unlisted := cellsGet_below h4 (by omega)
      have hne : k ≠ x := by omega
      simp [cellsSet, cellsGet, hk, hne, below]
    · simp [cellsSet, cellsGet, h3]
    · have hxk : ¬ x < k := by omega
      have hne : x ≠ k := by omega
      simp [cellsSet, cellsGet, hxk, hne, Ne.symm hne, ih h4]

/-! ### Memory -/

theorem Memory.wf_iff (m : Memory) : m.wf = true ↔ m.size ≤ 65536 ∧ cellsWf m.size m.cells 0 = true := by
  simp [Memory.wf]

@[simp] theorem Memory.set_size (m : Memory) (x : Nat) (v : Byte) : (m.set x v).size = m.size := rfl
@[simp] theorem Memory.set_cells (m : Memory) (x : Nat) (v : Byte) : (m.set x v).cells = cellsSet m.cells x v := rfl

/-- Everything a write can do: it succeeds exactly within the extent, and changes the cell list alone. -/
theorem Memory.write_eq_some {m m' : Memory} {x : Nat} {v : Byte} :
    m.write x v = some m' ↔ x < m.size ∧ m' = m.set x v := by
  unfold Memory.write
  split <;> simp [*, eq_comm]

@[simp] theorem Memory.read_eq_none {m : Memory} {x : Nat} : m.read x = none ↔ m.size ≤ x := by
  simp [Memory.read]

/-- Read after write (R57). -/
theorem Memory.read_write {m m' : Memory} {x : Nat} {v : Byte} (hm : m.wf = true) (h : m.write x v = some m') (y : Nat) :
    m'.read y = if y = x then some v else m.read y := by
  obtain ⟨hx, rfl⟩ := Memory.write_eq_some.1 h
  have := cellsGet_cellsSet ((Memory.wf_iff m).1 hm).2 x y v
  by_cases hy : y = x
  · subst hy; simp [Memory.read, this, hx]
  · simp [Memory.read, this, hy]

/-- A write keeps the canonical form. -/
theorem Memory.wf_write {m m' : Memory} {x : Nat} {v : Byte} (hm : m.wf = true) (h : m.write x v = some m') :
    m'.wf = true := by
  obtain ⟨hx, rfl⟩ := Memory.write_eq_some.1 h
  obtain ⟨h1, h2⟩ := (Memory.wf_iff m).1 hm
  exact (Memory.wf_iff _).2 ⟨h1, cellsSet_wf h2 (Nat.zero_le x) hx v⟩

/-- A load from outside keeps the canonical form, within the address space. -/
theorem Memory.wf_load {m : Memory} {x : Nat} (hm : m.wf = true) (hx : x < 65536) (v : Byte) :
    (m.load x v).wf = true := by
  obtain ⟨h1, h2⟩ := (Memory.wf_iff m).1 hm
  refine (Memory.wf_iff _).2 ⟨by simp only [Memory.load]; omega, ?_⟩
  exact cellsSet_wf (cellsWf_size h2 (Nat.le_max_left ..)) (Nat.zero_le x) (by omega) v

theorem placeBytes_wf {m : Memory} (hm : m.wf = true) (addr : Word) (bytes : List Byte) :
    (placeBytes m addr bytes).wf = true := by
  induction bytes generalizing m addr with
  | nil => exact hm
  | cons v rest ih => exact ih (Memory.wf_load hm addr.isLt v) _

/-- What a byte reads as after a load from outside, within the extent. -/
theorem Memory.read_load {m : Memory} (hm : m.wf = true) (x : Nat) (v : Byte) {y : Nat} (hy : y < (m.load x v).size) :
    (m.load x v).read y = some (if y = x then v else cellsGet m.cells y) := by
  have := cellsGet_cellsSet ((Memory.wf_iff m).1 hm).2 x y v
  rw [Memory.read, if_pos hy]
  exact congrArg some this

/-- Three bytes placed at an address read back, whatever the extent was (log 12, 13). -/
theorem placeBytes_read {m : Memory} (hm : m.wf = true) (addr : Word) (x y z : Byte) :
    (placeBytes m addr [x, y, z]).read addr.toNat = some x ∧
    (placeBytes m addr [x, y, z]).read (addr + 1).toNat = some y ∧
    (placeBytes m addr [x, y, z]).read (addr + 1 + 1).toNat = some z := by
  have w1 := Memory.wf_load hm addr.isLt x
  have w2 := Memory.wf_load w1 (addr + 1).isLt y
  have ha := addr.isLt
  have n1 : (addr + 1).toNat ≠ addr.toNat := by simp; omega
  have n2 : (addr + 1 + 1).toNat ≠ addr.toNat := by simp; omega
  have n3 : (addr + 1 + 1).toNat ≠ (addr + 1).toNat := by simp; omega
  have g1 := fun q v => cellsGet_cellsSet ((Memory.wf_iff _).1 hm).2 addr.toNat q v
  have g2 := fun q v => cellsGet_cellsSet ((Memory.wf_iff _).1 w1).2 (addr + 1).toNat q v
  simp only [placeBytes]
  refine ⟨?_, ?_, ?_⟩
  · rw [Memory.read_load w2 _ _ (by simp only [Memory.load]; omega), if_neg (Ne.symm n2)]
    exact congrArg some ((g2 _ _).trans ((if_neg (Ne.symm n1)).trans ((g1 _ _).trans (if_pos rfl))))
  · rw [Memory.read_load w2 _ _ (by simp only [Memory.load]; omega), if_neg (Ne.symm n3)]
    exact congrArg some ((g2 _ _).trans (if_pos rfl))
  · rw [Memory.read_load w2 _ _ (by simp only [Memory.load]; omega), if_pos rfl]

/-! ### Images -/

theorem imageCells_wf (bytes : List Byte) (base : Nat) :
    cellsWf (base + bytes.length) (imageCells bytes base) base = true := by
  induction bytes generalizing base with
  | nil => rfl
  | cons v rest ih =>
    have hrest := ih (base + 1)
    rw [show base + 1 + rest.length = base + (v :: rest).length by simp; omega] at hrest
    by_cases hv : v = Memory.unlisted
    · simpa [imageCells, hv] using cellsWf_mono hrest (Nat.le_succ base)
    · simp [imageCells, cellsWf, hv]; simpa using hrest

/-- The memory of an image that fits is canonical. -/
theorem Memory.wf_ofImage {bytes : List Byte} (h : imageWf bytes = true) : (Memory.ofImage bytes).wf = true := by
  refine (Memory.wf_iff _).2 ⟨by simpa [imageWf, Memory.ofImage] using h, ?_⟩
  simpa [Memory.ofImage] using imageCells_wf bytes 0

theorem cellsGet_imageCells (bytes : List Byte) (base x : Nat) :
    cellsGet (imageCells bytes base) (base + x) = bytes.getD x Memory.unlisted := by
  induction bytes generalizing base x with
  | nil => simp [imageCells, cellsGet]
  | cons v rest ih =>
    have below : cellsGet (imageCells rest (base + 1)) base = Memory.unlisted :=
      cellsGet_below (imageCells_wf rest (base + 1)) (Nat.lt_succ_self base)
    cases x with
    | zero => by_cases hv : v = Memory.unlisted <;> simp [imageCells, cellsGet, hv, below]
    | succ x =>
      have := ih (base + 1) x
      rw [show base + 1 + x = base + (x + 1) by omega] at this
      by_cases hv : v = Memory.unlisted <;> simp [imageCells, cellsGet, hv, this]

/-- An image's memory reads the image's bytes, and nothing past its end (R51). -/
theorem Memory.read_ofImage (bytes : List Byte) (x : Nat) : (Memory.ofImage bytes).read x = bytes[x]? := by
  have := cellsGet_imageCells bytes 0 x
  rw [Nat.zero_add] at this
  by_cases hx : x < bytes.length <;> simp [Memory.read, Memory.ofImage, this, hx]

end Sys2Proof.Machine
end

