-- ==== Sys2Proof/Laws/State.lean ====
section
/-! SUPPORT. One lemma per field per named update of State. -/

namespace Sys2Proof.Machine

/-! The epilogue (R137, R138). -/

@[simp] theorem epilogue_a (op : Byte) (taken : Bool) (s : State) : (epilogue op taken s).a = s.a := rfl
@[simp] theorem epilogue_f (op : Byte) (taken : Bool) (s : State) : (epilogue op taken s).f = s.f := rfl
@[simp] theorem epilogue_b (op : Byte) (taken : Bool) (s : State) : (epilogue op taken s).b = s.b := rfl
@[simp] theorem epilogue_c (op : Byte) (taken : Bool) (s : State) : (epilogue op taken s).c = s.c := rfl
@[simp] theorem epilogue_d (op : Byte) (taken : Bool) (s : State) : (epilogue op taken s).d = s.d := rfl
@[simp] theorem epilogue_e (op : Byte) (taken : Bool) (s : State) : (epilogue op taken s).e = s.e := rfl
@[simp] theorem epilogue_h (op : Byte) (taken : Bool) (s : State) : (epilogue op taken s).h = s.h := rfl
@[simp] theorem epilogue_l (op : Byte) (taken : Bool) (s : State) : (epilogue op taken s).l = s.l := rfl
@[simp] theorem epilogue_aAlt (op : Byte) (taken : Bool) (s : State) : (epilogue op taken s).a' = s.a' := rfl
@[simp] theorem epilogue_fAlt (op : Byte) (taken : Bool) (s : State) : (epilogue op taken s).f' = s.f' := rfl
@[simp] theorem epilogue_bAlt (op : Byte) (taken : Bool) (s : State) : (epilogue op taken s).b' = s.b' := rfl
@[simp] theorem epilogue_cAlt (op : Byte) (taken : Bool) (s : State) : (epilogue op taken s).c' = s.c' := rfl
@[simp] theorem epilogue_dAlt (op : Byte) (taken : Bool) (s : State) : (epilogue op taken s).d' = s.d' := rfl
@[simp] theorem epilogue_eAlt (op : Byte) (taken : Bool) (s : State) : (epilogue op taken s).e' = s.e' := rfl
@[simp] theorem epilogue_hAlt (op : Byte) (taken : Bool) (s : State) : (epilogue op taken s).h' = s.h' := rfl
@[simp] theorem epilogue_lAlt (op : Byte) (taken : Bool) (s : State) : (epilogue op taken s).l' = s.l' := rfl
@[simp] theorem epilogue_pc (op : Byte) (taken : Bool) (s : State) : (epilogue op taken s).pc = s.pc := rfl
@[simp] theorem epilogue_sp (op : Byte) (taken : Bool) (s : State) : (epilogue op taken s).sp = s.sp := rfl
@[simp] theorem epilogue_ix (op : Byte) (taken : Bool) (s : State) : (epilogue op taken s).ix = s.ix := rfl
@[simp] theorem epilogue_iy (op : Byte) (taken : Bool) (s : State) : (epilogue op taken s).iy = s.iy := rfl
@[simp] theorem epilogue_i (op : Byte) (taken : Bool) (s : State) : (epilogue op taken s).i = s.i := rfl
@[simp] theorem epilogue_r (op : Byte) (taken : Bool) (s : State) : (epilogue op taken s).r = s.r + 1 := rfl
@[simp] theorem epilogue_t (op : Byte) (taken : Bool) (s : State) : (epilogue op taken s).t = s.t + s.params.tstate op taken := rfl
@[simp] theorem epilogue_halted (op : Byte) (taken : Bool) (s : State) : (epilogue op taken s).halted = s.halted := rfl
@[simp] theorem epilogue_mem (op : Byte) (taken : Bool) (s : State) : (epilogue op taken s).mem = s.mem := rfl
@[simp] theorem epilogue_params (op : Byte) (taken : Bool) (s : State) : (epilogue op taken s).params = s.params := rfl

/-! Writing the flags (R24). -/

@[simp] theorem withFlags_a (s : State) (x : Flags) : (s.withFlags x).a = s.a := rfl
@[simp] theorem withFlags_f (s : State) (x : Flags) : (s.withFlags x).f = x.toByte := rfl
@[simp] theorem withFlags_b (s : State) (x : Flags) : (s.withFlags x).b = s.b := rfl
@[simp] theorem withFlags_c (s : State) (x : Flags) : (s.withFlags x).c = s.c := rfl
@[simp] theorem withFlags_d (s : State) (x : Flags) : (s.withFlags x).d = s.d := rfl
@[simp] theorem withFlags_e (s : State) (x : Flags) : (s.withFlags x).e = s.e := rfl
@[simp] theorem withFlags_h (s : State) (x : Flags) : (s.withFlags x).h = s.h := rfl
@[simp] theorem withFlags_l (s : State) (x : Flags) : (s.withFlags x).l = s.l := rfl
@[simp] theorem withFlags_aAlt (s : State) (x : Flags) : (s.withFlags x).a' = s.a' := rfl
@[simp] theorem withFlags_fAlt (s : State) (x : Flags) : (s.withFlags x).f' = s.f' := rfl
@[simp] theorem withFlags_bAlt (s : State) (x : Flags) : (s.withFlags x).b' = s.b' := rfl
@[simp] theorem withFlags_cAlt (s : State) (x : Flags) : (s.withFlags x).c' = s.c' := rfl
@[simp] theorem withFlags_dAlt (s : State) (x : Flags) : (s.withFlags x).d' = s.d' := rfl
@[simp] theorem withFlags_eAlt (s : State) (x : Flags) : (s.withFlags x).e' = s.e' := rfl
@[simp] theorem withFlags_hAlt (s : State) (x : Flags) : (s.withFlags x).h' = s.h' := rfl
@[simp] theorem withFlags_lAlt (s : State) (x : Flags) : (s.withFlags x).l' = s.l' := rfl
@[simp] theorem withFlags_pc (s : State) (x : Flags) : (s.withFlags x).pc = s.pc := rfl
@[simp] theorem withFlags_sp (s : State) (x : Flags) : (s.withFlags x).sp = s.sp := rfl
@[simp] theorem withFlags_ix (s : State) (x : Flags) : (s.withFlags x).ix = s.ix := rfl
@[simp] theorem withFlags_iy (s : State) (x : Flags) : (s.withFlags x).iy = s.iy := rfl
@[simp] theorem withFlags_i (s : State) (x : Flags) : (s.withFlags x).i = s.i := rfl
@[simp] theorem withFlags_r (s : State) (x : Flags) : (s.withFlags x).r = s.r := rfl
@[simp] theorem withFlags_t (s : State) (x : Flags) : (s.withFlags x).t = s.t := rfl
@[simp] theorem withFlags_halted (s : State) (x : Flags) : (s.withFlags x).halted = s.halted := rfl
@[simp] theorem withFlags_mem (s : State) (x : Flags) : (s.withFlags x).mem = s.mem := rfl
@[simp] theorem withFlags_params (s : State) (x : Flags) : (s.withFlags x).params = s.params := rfl

/-! Writing PC and memory (R30, R38). -/

@[simp] theorem setPc_a (s : State) (v : Word) : (s.setPc v).a = s.a := rfl
@[simp] theorem setPc_f (s : State) (v : Word) : (s.setPc v).f = s.f := rfl
@[simp] theorem setPc_b (s : State) (v : Word) : (s.setPc v).b = s.b := rfl
@[simp] theorem setPc_c (s : State) (v : Word) : (s.setPc v).c = s.c := rfl
@[simp] theorem setPc_d (s : State) (v : Word) : (s.setPc v).d = s.d := rfl
@[simp] theorem setPc_e (s : State) (v : Word) : (s.setPc v).e = s.e := rfl
@[simp] theorem setPc_h (s : State) (v : Word) : (s.setPc v).h = s.h := rfl
@[simp] theorem setPc_l (s : State) (v : Word) : (s.setPc v).l = s.l := rfl
@[simp] theorem setPc_aAlt (s : State) (v : Word) : (s.setPc v).a' = s.a' := rfl
@[simp] theorem setPc_fAlt (s : State) (v : Word) : (s.setPc v).f' = s.f' := rfl
@[simp] theorem setPc_bAlt (s : State) (v : Word) : (s.setPc v).b' = s.b' := rfl
@[simp] theorem setPc_cAlt (s : State) (v : Word) : (s.setPc v).c' = s.c' := rfl
@[simp] theorem setPc_dAlt (s : State) (v : Word) : (s.setPc v).d' = s.d' := rfl
@[simp] theorem setPc_eAlt (s : State) (v : Word) : (s.setPc v).e' = s.e' := rfl
@[simp] theorem setPc_hAlt (s : State) (v : Word) : (s.setPc v).h' = s.h' := rfl
@[simp] theorem setPc_lAlt (s : State) (v : Word) : (s.setPc v).l' = s.l' := rfl
@[simp] theorem setPc_pc (s : State) (v : Word) : (s.setPc v).pc = v := rfl
@[simp] theorem setPc_sp (s : State) (v : Word) : (s.setPc v).sp = s.sp := rfl
@[simp] theorem setPc_ix (s : State) (v : Word) : (s.setPc v).ix = s.ix := rfl
@[simp] theorem setPc_iy (s : State) (v : Word) : (s.setPc v).iy = s.iy := rfl
@[simp] theorem setPc_i (s : State) (v : Word) : (s.setPc v).i = s.i := rfl
@[simp] theorem setPc_r (s : State) (v : Word) : (s.setPc v).r = s.r := rfl
@[simp] theorem setPc_t (s : State) (v : Word) : (s.setPc v).t = s.t := rfl
@[simp] theorem setPc_halted (s : State) (v : Word) : (s.setPc v).halted = s.halted := rfl
@[simp] theorem setPc_mem (s : State) (v : Word) : (s.setPc v).mem = s.mem := rfl
@[simp] theorem setPc_params (s : State) (v : Word) : (s.setPc v).params = s.params := rfl
@[simp] theorem setMem_a (s : State) (m : Memory) : (s.setMem m).a = s.a := rfl
@[simp] theorem setMem_f (s : State) (m : Memory) : (s.setMem m).f = s.f := rfl
@[simp] theorem setMem_b (s : State) (m : Memory) : (s.setMem m).b = s.b := rfl
@[simp] theorem setMem_c (s : State) (m : Memory) : (s.setMem m).c = s.c := rfl
@[simp] theorem setMem_d (s : State) (m : Memory) : (s.setMem m).d = s.d := rfl
@[simp] theorem setMem_e (s : State) (m : Memory) : (s.setMem m).e = s.e := rfl
@[simp] theorem setMem_h (s : State) (m : Memory) : (s.setMem m).h = s.h := rfl
@[simp] theorem setMem_l (s : State) (m : Memory) : (s.setMem m).l = s.l := rfl
@[simp] theorem setMem_aAlt (s : State) (m : Memory) : (s.setMem m).a' = s.a' := rfl
@[simp] theorem setMem_fAlt (s : State) (m : Memory) : (s.setMem m).f' = s.f' := rfl
@[simp] theorem setMem_bAlt (s : State) (m : Memory) : (s.setMem m).b' = s.b' := rfl
@[simp] theorem setMem_cAlt (s : State) (m : Memory) : (s.setMem m).c' = s.c' := rfl
@[simp] theorem setMem_dAlt (s : State) (m : Memory) : (s.setMem m).d' = s.d' := rfl
@[simp] theorem setMem_eAlt (s : State) (m : Memory) : (s.setMem m).e' = s.e' := rfl
@[simp] theorem setMem_hAlt (s : State) (m : Memory) : (s.setMem m).h' = s.h' := rfl
@[simp] theorem setMem_lAlt (s : State) (m : Memory) : (s.setMem m).l' = s.l' := rfl
@[simp] theorem setMem_pc (s : State) (m : Memory) : (s.setMem m).pc = s.pc := rfl
@[simp] theorem setMem_sp (s : State) (m : Memory) : (s.setMem m).sp = s.sp := rfl
@[simp] theorem setMem_ix (s : State) (m : Memory) : (s.setMem m).ix = s.ix := rfl
@[simp] theorem setMem_iy (s : State) (m : Memory) : (s.setMem m).iy = s.iy := rfl
@[simp] theorem setMem_i (s : State) (m : Memory) : (s.setMem m).i = s.i := rfl
@[simp] theorem setMem_r (s : State) (m : Memory) : (s.setMem m).r = s.r := rfl
@[simp] theorem setMem_t (s : State) (m : Memory) : (s.setMem m).t = s.t := rfl
@[simp] theorem setMem_halted (s : State) (m : Memory) : (s.setMem m).halted = s.halted := rfl
@[simp] theorem setMem_mem (s : State) (m : Memory) : (s.setMem m).mem = m := rfl
@[simp] theorem setMem_params (s : State) (m : Memory) : (s.setMem m).params = s.params := rfl

/-! Writing a register (R27). -/

@[simp] theorem setReg8_a (s : State) (r : Reg8) (v : Byte) : (s.setReg8 r v).a = if r = .a then v else s.a := by cases r <;> rfl
@[simp] theorem setReg8_f (s : State) (r : Reg8) (v : Byte) : (s.setReg8 r v).f = s.f := by cases r <;> rfl
@[simp] theorem setReg8_b (s : State) (r : Reg8) (v : Byte) : (s.setReg8 r v).b = if r = .b then v else s.b := by cases r <;> rfl
@[simp] theorem setReg8_c (s : State) (r : Reg8) (v : Byte) : (s.setReg8 r v).c = if r = .c then v else s.c := by cases r <;> rfl
@[simp] theorem setReg8_d (s : State) (r : Reg8) (v : Byte) : (s.setReg8 r v).d = if r = .d then v else s.d := by cases r <;> rfl
@[simp] theorem setReg8_e (s : State) (r : Reg8) (v : Byte) : (s.setReg8 r v).e = if r = .e then v else s.e := by cases r <;> rfl
@[simp] theorem setReg8_h (s : State) (r : Reg8) (v : Byte) : (s.setReg8 r v).h = if r = .h then v else s.h := by cases r <;> rfl
@[simp] theorem setReg8_l (s : State) (r : Reg8) (v : Byte) : (s.setReg8 r v).l = if r = .l then v else s.l := by cases r <;> rfl
@[simp] theorem setReg8_aAlt (s : State) (r : Reg8) (v : Byte) : (s.setReg8 r v).a' = s.a' := by cases r <;> rfl
@[simp] theorem setReg8_fAlt (s : State) (r : Reg8) (v : Byte) : (s.setReg8 r v).f' = s.f' := by cases r <;> rfl
@[simp] theorem setReg8_bAlt (s : State) (r : Reg8) (v : Byte) : (s.setReg8 r v).b' = s.b' := by cases r <;> rfl
@[simp] theorem setReg8_cAlt (s : State) (r : Reg8) (v : Byte) : (s.setReg8 r v).c' = s.c' := by cases r <;> rfl
@[simp] theorem setReg8_dAlt (s : State) (r : Reg8) (v : Byte) : (s.setReg8 r v).d' = s.d' := by cases r <;> rfl
@[simp] theorem setReg8_eAlt (s : State) (r : Reg8) (v : Byte) : (s.setReg8 r v).e' = s.e' := by cases r <;> rfl
@[simp] theorem setReg8_hAlt (s : State) (r : Reg8) (v : Byte) : (s.setReg8 r v).h' = s.h' := by cases r <;> rfl
@[simp] theorem setReg8_lAlt (s : State) (r : Reg8) (v : Byte) : (s.setReg8 r v).l' = s.l' := by cases r <;> rfl
@[simp] theorem setReg8_pc (s : State) (r : Reg8) (v : Byte) : (s.setReg8 r v).pc = s.pc := by cases r <;> rfl
@[simp] theorem setReg8_sp (s : State) (r : Reg8) (v : Byte) : (s.setReg8 r v).sp = s.sp := by cases r <;> rfl
@[simp] theorem setReg8_ix (s : State) (r : Reg8) (v : Byte) : (s.setReg8 r v).ix = s.ix := by cases r <;> rfl
@[simp] theorem setReg8_iy (s : State) (r : Reg8) (v : Byte) : (s.setReg8 r v).iy = s.iy := by cases r <;> rfl
@[simp] theorem setReg8_i (s : State) (r : Reg8) (v : Byte) : (s.setReg8 r v).i = s.i := by cases r <;> rfl
@[simp] theorem setReg8_r (s : State) (r : Reg8) (v : Byte) : (s.setReg8 r v).r = s.r := by cases r <;> rfl
@[simp] theorem setReg8_t (s : State) (r : Reg8) (v : Byte) : (s.setReg8 r v).t = s.t := by cases r <;> rfl
@[simp] theorem setReg8_halted (s : State) (r : Reg8) (v : Byte) : (s.setReg8 r v).halted = s.halted := by cases r <;> rfl
@[simp] theorem setReg8_mem (s : State) (r : Reg8) (v : Byte) : (s.setReg8 r v).mem = s.mem := by cases r <;> rfl
@[simp] theorem setReg8_params (s : State) (r : Reg8) (v : Byte) : (s.setReg8 r v).params = s.params := by cases r <;> rfl

theorem setReg8_reg8 (s : State) (r q : Reg8) (v : Byte) :
    (s.setReg8 r v).reg8 q = if q = r then v else s.reg8 q := by
  cases r <;> cases q <;> rfl

@[simp] theorem setReg8_reg8_same (s : State) (r : Reg8) (v : Byte) : (s.setReg8 r v).reg8 r = v := by
  cases r <;> rfl

theorem setReg8_reg8_other (s : State) {r q : Reg8} (v : Byte) (h : q ≠ r) :
    (s.setReg8 r v).reg8 q = s.reg8 q := by
  simp [setReg8_reg8, h]

/-! Writing a pair (R22, R28). -/

@[simp] theorem setPair_a (s : State) (p : Pair) (v : Word) : (s.setPair p v).a = s.a := by cases p <;> rfl
@[simp] theorem setPair_f (s : State) (p : Pair) (v : Word) : (s.setPair p v).f = s.f := by cases p <;> rfl
@[simp] theorem setPair_b (s : State) (p : Pair) (v : Word) : (s.setPair p v).b = if p = .bc then hiByte v else s.b := by cases p <;> rfl
@[simp] theorem setPair_c (s : State) (p : Pair) (v : Word) : (s.setPair p v).c = if p = .bc then loByte v else s.c := by cases p <;> rfl
@[simp] theorem setPair_d (s : State) (p : Pair) (v : Word) : (s.setPair p v).d = if p = .de then hiByte v else s.d := by cases p <;> rfl
@[simp] theorem setPair_e (s : State) (p : Pair) (v : Word) : (s.setPair p v).e = if p = .de then loByte v else s.e := by cases p <;> rfl
@[simp] theorem setPair_h (s : State) (p : Pair) (v : Word) : (s.setPair p v).h = if p = .hl then hiByte v else s.h := by cases p <;> rfl
@[simp] theorem setPair_l (s : State) (p : Pair) (v : Word) : (s.setPair p v).l = if p = .hl then loByte v else s.l := by cases p <;> rfl
@[simp] theorem setPair_aAlt (s : State) (p : Pair) (v : Word) : (s.setPair p v).a' = s.a' := by cases p <;> rfl
@[simp] theorem setPair_fAlt (s : State) (p : Pair) (v : Word) : (s.setPair p v).f' = s.f' := by cases p <;> rfl
@[simp] theorem setPair_bAlt (s : State) (p : Pair) (v : Word) : (s.setPair p v).b' = s.b' := by cases p <;> rfl
@[simp] theorem setPair_cAlt (s : State) (p : Pair) (v : Word) : (s.setPair p v).c' = s.c' := by cases p <;> rfl
@[simp] theorem setPair_dAlt (s : State) (p : Pair) (v : Word) : (s.setPair p v).d' = s.d' := by cases p <;> rfl
@[simp] theorem setPair_eAlt (s : State) (p : Pair) (v : Word) : (s.setPair p v).e' = s.e' := by cases p <;> rfl
@[simp] theorem setPair_hAlt (s : State) (p : Pair) (v : Word) : (s.setPair p v).h' = s.h' := by cases p <;> rfl
@[simp] theorem setPair_lAlt (s : State) (p : Pair) (v : Word) : (s.setPair p v).l' = s.l' := by cases p <;> rfl
@[simp] theorem setPair_pc (s : State) (p : Pair) (v : Word) : (s.setPair p v).pc = s.pc := by cases p <;> rfl
@[simp] theorem setPair_sp (s : State) (p : Pair) (v : Word) : (s.setPair p v).sp = if p = .sp then v else s.sp := by cases p <;> rfl
@[simp] theorem setPair_ix (s : State) (p : Pair) (v : Word) : (s.setPair p v).ix = s.ix := by cases p <;> rfl
@[simp] theorem setPair_iy (s : State) (p : Pair) (v : Word) : (s.setPair p v).iy = s.iy := by cases p <;> rfl
@[simp] theorem setPair_i (s : State) (p : Pair) (v : Word) : (s.setPair p v).i = s.i := by cases p <;> rfl
@[simp] theorem setPair_r (s : State) (p : Pair) (v : Word) : (s.setPair p v).r = s.r := by cases p <;> rfl
@[simp] theorem setPair_t (s : State) (p : Pair) (v : Word) : (s.setPair p v).t = s.t := by cases p <;> rfl
@[simp] theorem setPair_halted (s : State) (p : Pair) (v : Word) : (s.setPair p v).halted = s.halted := by cases p <;> rfl
@[simp] theorem setPair_mem (s : State) (p : Pair) (v : Word) : (s.setPair p v).mem = s.mem := by cases p <;> rfl
@[simp] theorem setPair_params (s : State) (p : Pair) (v : Word) : (s.setPair p v).params = s.params := by cases p <;> rfl

@[simp] theorem cat_toNat (hi lo : Byte) : (cat hi lo).toNat = hi.toNat * 256 + lo.toNat := by
  simp [cat]; omega

@[simp] theorem hiByte_toNat (v : Word) : (hiByte v).toNat = v.toNat / 256 := by
  simp [hiByte, Nat.shiftRight_eq_div_pow]; omega

@[simp] theorem loByte_toNat (v : Word) : (loByte v).toNat = v.toNat % 256 := by
  simp [loByte]

/-- The halves of a word joined are the word (R22, R23). -/
@[simp] theorem cat_hiByte_loByte (v : Word) : cat (hiByte v) (loByte v) = v :=
  BitVec.eq_of_toNat_eq (by simp; omega)

@[simp] theorem hiByte_cat (hi lo : Byte) : hiByte (cat hi lo) = hi :=
  BitVec.eq_of_toNat_eq (by simp; omega)

@[simp] theorem loByte_cat (hi lo : Byte) : loByte (cat hi lo) = lo :=
  BitVec.eq_of_toNat_eq (by simp; omega)

theorem setPair_pair (s : State) (p q : Pair) (v : Word) :
    (s.setPair p v).pair q = if q = p then v else s.pair q := by
  cases p <;> cases q <;> simp [State.setPair, State.pair, State.bc, State.de, State.hl]

@[simp] theorem setPair_pair_same (s : State) (p : Pair) (v : Word) : (s.setPair p v).pair p = v := by
  simp [setPair_pair]

/-! The registers no instruction reaches (R21, R32, R33). -/

@[simp] theorem withUnreached_a (s : State) (u : Unreached) : (s.withUnreached u).a = s.a := rfl
@[simp] theorem withUnreached_f (s : State) (u : Unreached) : (s.withUnreached u).f = s.f := rfl
@[simp] theorem withUnreached_b (s : State) (u : Unreached) : (s.withUnreached u).b = s.b := rfl
@[simp] theorem withUnreached_c (s : State) (u : Unreached) : (s.withUnreached u).c = s.c := rfl
@[simp] theorem withUnreached_d (s : State) (u : Unreached) : (s.withUnreached u).d = s.d := rfl
@[simp] theorem withUnreached_e (s : State) (u : Unreached) : (s.withUnreached u).e = s.e := rfl
@[simp] theorem withUnreached_h (s : State) (u : Unreached) : (s.withUnreached u).h = s.h := rfl
@[simp] theorem withUnreached_l (s : State) (u : Unreached) : (s.withUnreached u).l = s.l := rfl
@[simp] theorem withUnreached_aAlt (s : State) (u : Unreached) : (s.withUnreached u).a' = s.a' := rfl
@[simp] theorem withUnreached_fAlt (s : State) (u : Unreached) : (s.withUnreached u).f' = s.f' := rfl
@[simp] theorem withUnreached_bAlt (s : State) (u : Unreached) : (s.withUnreached u).b' = u.b' := rfl
@[simp] theorem withUnreached_cAlt (s : State) (u : Unreached) : (s.withUnreached u).c' = u.c' := rfl
@[simp] theorem withUnreached_dAlt (s : State) (u : Unreached) : (s.withUnreached u).d' = u.d' := rfl
@[simp] theorem withUnreached_eAlt (s : State) (u : Unreached) : (s.withUnreached u).e' = u.e' := rfl
@[simp] theorem withUnreached_hAlt (s : State) (u : Unreached) : (s.withUnreached u).h' = u.h' := rfl
@[simp] theorem withUnreached_lAlt (s : State) (u : Unreached) : (s.withUnreached u).l' = u.l' := rfl
@[simp] theorem withUnreached_pc (s : State) (u : Unreached) : (s.withUnreached u).pc = s.pc := rfl
@[simp] theorem withUnreached_sp (s : State) (u : Unreached) : (s.withUnreached u).sp = s.sp := rfl
@[simp] theorem withUnreached_ix (s : State) (u : Unreached) : (s.withUnreached u).ix = u.ix := rfl
@[simp] theorem withUnreached_iy (s : State) (u : Unreached) : (s.withUnreached u).iy = u.iy := rfl
@[simp] theorem withUnreached_i (s : State) (u : Unreached) : (s.withUnreached u).i = u.i := rfl
@[simp] theorem withUnreached_r (s : State) (u : Unreached) : (s.withUnreached u).r = s.r := rfl
@[simp] theorem withUnreached_t (s : State) (u : Unreached) : (s.withUnreached u).t = s.t := rfl
@[simp] theorem withUnreached_halted (s : State) (u : Unreached) : (s.withUnreached u).halted = s.halted := rfl
@[simp] theorem withUnreached_mem (s : State) (u : Unreached) : (s.withUnreached u).mem = s.mem := rfl
@[simp] theorem withUnreached_params (s : State) (u : Unreached) : (s.withUnreached u).params = s.params := rfl

end Sys2Proof.Machine
end

