-- ==== Sys2Proof/Laws/Ops.lean ====
section
/-! SUPPORT. What each shared operation can answer, said once. -/

namespace Sys2Proof.Machine

@[simp] theorem andThen_next {α β : Type} (v : α) (k : α → Result β) : andThen (.next v) k = k v := rfl
@[simp] theorem andThen_fault {α β : Type} (r : Fault) (k : α → Result β) : andThen (.fault r) k = .fault r := rfl
@[simp] theorem andThen_refused {α β : Type} (r : Refusal) (k : α → Result β) :
    andThen (.refused r) k = .refused r := rfl

/-- A sequence completes exactly when both parts do. -/
theorem andThen_eq_next {α β : Type} {x : Result α} {k : α → Result β} {w : β} :
    andThen x k = .next w ↔ ∃ v, x = .next v ∧ k v = .next w := by
  cases x <;> simp

theorem andThen_eq_fault {α β : Type} {x : Result α} {k : α → Result β} {r : Fault} :
    andThen x k = .fault r ↔ x = .fault r ∨ ∃ v, x = .next v ∧ k v = .fault r := by
  cases x <;> simp

theorem andThen_eq_refused {α β : Type} {x : Result α} {k : α → Result β} {r : Refusal} :
    andThen x k = .refused r ↔ x = .refused r ∨ ∃ v, x = .next v ∧ k v = .refused r := by
  cases x <;> simp

theorem andThen_assoc {α β γ : Type} (x : Result α) (k : α → Result β) (l : β → Result γ) :
    andThen (andThen x k) l = andThen x fun v => andThen (k v) l := by
  cases x <;> rfl

@[simp] theorem mapNext_next (g : State → State) (s : State) : mapNext g (.next s) = .next (g s) := rfl
@[simp] theorem mapNext_fault (g : State → State) (r : Fault) : mapNext g (.fault r) = .fault r := rfl
@[simp] theorem mapNext_refused (g : State → State) (r : Refusal) : mapNext g (.refused r) = .refused r := rfl

theorem mapNext_andThen {α : Type} (g : State → State) (x : Result α) (k : α → Result State) :
    mapNext g (andThen x k) = andThen x fun v => mapNext g (k v) := by
  cases x <;> rfl

theorem andThen_mapNext {α : Type} (g : State → State) (x : Result State) (k : State → Result α) :
    andThen (mapNext g x) k = andThen x fun s => k (g s) := by
  cases x <;> rfl

/-! ### The step of a halted core (R141) -/

theorem step_of_halted {s : State} (h : s.halted = true) : step s = .next s := by simp [step, h]

theorem step_of_running {s : State} (h : s.halted = false) :
    step s = andThen (fetchInstr s) fun x => exec x.1 x.2 := by
  simp [step, h]

theorem observed_of_halted {s : State} (h : s.halted = true) : observed s = s := by
  simp [observed, step_of_halted h]

theorem report_of_halted {s : State} (h : s.halted = true) : report s = .halted := by simp [report, h]

/-! ### Data accesses (R52) -/

theorem memRead_eq_next {s : State} {addr : Word} {v : Byte} :
    memRead s addr = .next v ↔ s.mem.read addr.toNat = some v := by
  unfold memRead; split <;> simp [*]

theorem memRead_of_some {s : State} {addr : Word} {v : Byte} (h : s.mem.read addr.toNat = some v) :
    memRead s addr = .next v := memRead_eq_next.2 h

theorem memRead_outside {s : State} {addr : Word} (h : s.mem.size ≤ addr.toNat) :
    memRead s addr = .fault (.memFault addr .read) := by
  unfold memRead; rw [Memory.read_eq_none.2 h]

/-- A read faults only outside the extent, and is never refused. -/
theorem memRead_eq_fault {s : State} {addr : Word} {r : Fault} :
    memRead s addr = .fault r ↔ s.mem.size ≤ addr.toNat ∧ r = .memFault addr .read := by
  unfold memRead
  cases h : s.mem.read addr.toNat with
  | none => simpa [eq_comm] using fun _ => Memory.read_eq_none.1 h
  | some v =>
    simp only [reduceCtorEq, false_iff, not_and]
    intro hs; simp [Memory.read_eq_none.2 hs] at h

@[simp] theorem memRead_ne_refused (s : State) (addr : Word) (r : Refusal) : memRead s addr ≠ .refused r := by
  unfold memRead; split <;> simp

/-- Everything a store can do: it succeeds exactly within the extent, and changes memory alone. -/
theorem memWrite_eq_next {s t : State} {addr : Word} {v : Byte} :
    memWrite s addr v = .next t ↔ ∃ m, s.mem.write addr.toNat v = some m ∧ t = s.setMem m := by
  unfold memWrite; split <;> simp [*, eq_comm]

theorem memWrite_inside {s : State} {addr : Word} (v : Byte) (h : addr.toNat < s.mem.size) :
    memWrite s addr v = .next (s.setMem (s.mem.set addr.toNat v)) := by
  simp [memWrite, Memory.write, h]

theorem memWrite_outside {s : State} {addr : Word} (v : Byte) (h : s.mem.size ≤ addr.toNat) :
    memWrite s addr v = .fault (.memFault addr .write) := by
  have : ¬ addr.toNat < s.mem.size := by omega
  simp [memWrite, Memory.write, this]

theorem memWrite_eq_fault {s : State} {addr : Word} {v : Byte} {r : Fault} :
    memWrite s addr v = .fault r ↔ s.mem.size ≤ addr.toNat ∧ r = .memFault addr .write := by
  by_cases h : addr.toNat < s.mem.size
  · rw [memWrite_inside v h]; simp; omega
  · rw [memWrite_outside v (by omega)]; simp [eq_comm]; omega

@[simp] theorem memWrite_ne_refused (s : State) (addr : Word) (v : Byte) (r : Refusal) :
    memWrite s addr v ≠ .refused r := by
  unfold memWrite; split <;> simp

/-- What the memory of a completed store reads as. -/
theorem memWrite_byteAt {s t : State} {addr : Word} {v : Byte} (hs : s.mem.wf = true)
    (h : memWrite s addr v = .next t) : ByteStored addr v s t := by
  obtain ⟨m, hm, rfl⟩ := memWrite_eq_next.1 h
  exact fun x => Memory.read_write hs hm x

theorem memWrite_wf {s t : State} {addr : Word} {v : Byte} (hs : s.mem.wf = true)
    (h : memWrite s addr v = .next t) : t.mem.wf = true := by
  obtain ⟨m, hm, rfl⟩ := memWrite_eq_next.1 h
  exact Memory.wf_write hs hm

/-! ### The instruction stream (R132) -/

/-- Everything a byte fetch can do. -/
theorem fetch8_eq_next {s t : State} {v : Byte} :
    fetch8 s = .next (v, t) ↔ s.mem.read s.pc.toNat = some v ∧ t = s.setPc (s.pc + 1) := by
  unfold fetch8; split <;> simp [*, eq_comm]

theorem fetch8_of_some {s : State} {v : Byte} (h : s.mem.read s.pc.toNat = some v) :
    fetch8 s = .next (v, s.setPc (s.pc + 1)) := fetch8_eq_next.2 ⟨h, rfl⟩

theorem fetch8_of_none {s : State} (h : s.mem.read s.pc.toNat = none) :
    fetch8 s = .fault (.memFault s.pc .fetch) := by
  unfold fetch8; rw [h]

theorem fetch8_eq_fault {s : State} {r : Fault} :
    fetch8 s = .fault r ↔ s.mem.size ≤ s.pc.toNat ∧ r = .memFault s.pc .fetch := by
  cases h : s.mem.read s.pc.toNat with
  | none => rw [fetch8_of_none h]; simpa [eq_comm] using fun _ => Memory.read_eq_none.1 h
  | some v =>
    rw [fetch8_of_some h]
    simp only [reduceCtorEq, false_iff, not_and]
    intro hs; simp [Memory.read_eq_none.2 hs] at h

@[simp] theorem fetch8_ne_refused (s : State) (r : Refusal) : fetch8 s ≠ .refused r := by
  unfold fetch8; split <;> simp

/-- A fetched instruction leaves everything but PC as it was (R131, R132). -/
theorem fetchInstr_eq_next {s t : State} {i : Instr} (h : fetchInstr s = .next (i, t)) :
    t = s.setPc t.pc := by
  obtain ⟨⟨op, s1⟩, h1, h⟩ := andThen_eq_next.1 h
  obtain ⟨-, rfl⟩ := fetch8_eq_next.1 h1
  simp only at h
  split at h
  · cases h; rfl
  · obtain ⟨⟨n, s2⟩, h2, h⟩ := andThen_eq_next.1 h
    obtain ⟨-, rfl⟩ := fetch8_eq_next.1 h2
    cases h; rfl
  · obtain ⟨⟨n, s2⟩, h2, h⟩ := andThen_eq_next.1 h
    obtain ⟨-, rfl⟩ := fetch8_eq_next.1 h2
    cases h; rfl
  · obtain ⟨⟨n, s2⟩, h2, h⟩ := andThen_eq_next.1 h
    obtain ⟨⟨lo, s3⟩, h3, h2⟩ := andThen_eq_next.1 h2
    obtain ⟨-, rfl⟩ := fetch8_eq_next.1 h3
    obtain ⟨⟨hi, s4⟩, h4, h2⟩ := andThen_eq_next.1 h2
    obtain ⟨-, rfl⟩ := fetch8_eq_next.1 h4
    cases h2; cases h; rfl

end Sys2Proof.Machine
end

