-- ==== Sys2Proof/Laws/Exec.lean ====
section
/-! SUPPORT. `exec` by rule: every instruction runs the shared operation of its form, so a proof about `exec` splits
over the forms and not over the 256 instructions. -/

namespace Sys2Proof.Machine

/-- The shared operation of a form, run for an opcode. -/
def runForm (op : Byte) : Form → State → Result State
  | .nop, s => noOperation op s
  | .exAf, s => exchangeAf op s
  | .djnz d, s => decrementJump op d s
  | .jr d, s => jumpRelative op d s
  | .jrCc cc d, s => jumpConditional op cc d s
  | .ldPairNn p nn, s => loadPair op p nn s
  | .addHl p, s => addHl op p s
  | .ldMemBcA, s => storeA op s.bc s
  | .ldMemDeA, s => storeA op s.de s
  | .ldMemNnHl nn, s => storeHl op nn s
  | .ldMemNnA nn, s => storeA op nn s
  | .ldAMemBc, s => loadA op s.bc s
  | .ldAMemDe, s => loadA op s.de s
  | .ldHlMemNn nn, s => loadHl op nn s
  | .ldAMemNn nn, s => loadA op nn s
  | .incPair p, s => incPair op p s
  | .decPair p, s => decPair op p s
  | .inc o, s => incOperand op o s
  | .dec o, s => decOperand op o s
  | .ldN dst n, s => loadImmediate op dst n s
  | .acc .rlca, s => accumulate op (rlc8 s.a s.flags) s
  | .acc .rrca, s => accumulate op (rrc8 s.a s.flags) s
  | .acc .rla, s => accumulate op (rl8 s.a s.flags) s
  | .acc .rra, s => accumulate op (rr8 s.a s.flags) s
  | .acc .daa, s => accumulate op (daa s.a s.flags) s
  | .acc .cpl, s => accumulate op (cpl8 s.a s.flags) s
  | .acc .scf, s => accumulate op (scf8 s.a s.flags) s
  | .acc .ccf, s => accumulate op (ccf8 s.a s.flags) s
  | .ld8 dst src, s => move8 op dst src s
  | .halt, s => suspend op s
  | .alu f o, s => alu op f o s
  | .cp o, s => compare op o s
  | .unimpl op, s => unimplemented op s

/-- The opcode of a form, by the patterns of the instruction rules (R150-R215). -/
def opcodeOf : Form → Byte
  | .nop => 0b00000000
  | .exAf => 0b00001000
  | .djnz _ => 0b00010000
  | .jr _ => 0b00011000
  | .jrCc cc _ => 0b001#3 ++ cc.code ++ 0b000#3
  | .ldPairNn p _ => 0b00#2 ++ p.code ++ 0b0001#4
  | .addHl p => 0b00#2 ++ p.code ++ 0b1001#4
  | .ldMemBcA => 0b00000010
  | .ldMemDeA => 0b00010010
  | .ldMemNnHl _ => 0b00100010
  | .ldMemNnA _ => 0b00110010
  | .ldAMemBc => 0b00001010
  | .ldAMemDe => 0b00011010
  | .ldHlMemNn _ => 0b00101010
  | .ldAMemNn _ => 0b00111010
  | .incPair p => 0b00#2 ++ p.code ++ 0b0011#4
  | .decPair p => 0b00#2 ++ p.code ++ 0b1011#4
  | .inc o => 0b00#2 ++ o.code ++ 0b100#3
  | .dec o => 0b00#2 ++ o.code ++ 0b101#3
  | .ldN o _ => 0b00#2 ++ o.code ++ 0b110#3
  | .acc a => 0b00#2 ++ a.code ++ 0b111#3
  | .ld8 dst src => 0b01#2 ++ dst.code ++ src.code
  | .halt => 0b01110110
  | .alu f o => 0b10#2 ++ f.code ++ o.code
  | .cp o => 0b10111#5 ++ o.code
  | .unimpl op => op

/-- The operand bytes of a form. -/
def operandBytesOf : Form → List Byte
  | .djnz d | .jr d | .jrCc _ d => [byteOfDisp d]
  | .ldPairNn _ nn | .ldMemNnHl nn | .ldMemNnA nn | .ldHlMemNn nn | .ldAMemNn nn => [loByte nn, hiByte nn]
  | .ldN _ n => [n]
  | .nop | .exAf | .addHl _ | .ldMemBcA | .ldMemDeA | .ldAMemBc | .ldAMemDe | .incPair _ | .decPair _ | .inc _
  | .dec _ | .acc _ | .ld8 _ _ | .halt | .alu _ _ | .cp _ | .unimpl _ => []

/-- Every instruction runs the shared operation of its form, for the opcode of its form. -/
theorem exec_eq_runForm (i : Instr) (s : State) : exec i s = runForm (opcodeOf (formOf i)) (formOf i) s := by
  cases i <;> rfl

/-- `exec` of an instruction whose form is known. -/
theorem exec_of_form {i : Instr} {f : Form} (h : formOf i = f) (s : State) : exec i s = runForm (opcodeOf f) f s := by
  rw [exec_eq_runForm, h]

/-- Every instruction is encoded by the pattern of its rule. -/
theorem encode_eq_form (i : Instr) : encode i = opcodeOf (formOf i) :: operandBytesOf (formOf i) := by
  cases i <;> rfl

theorem encode_of_form {i : Instr} {f : Form} (h : formOf i = f) : encode i = opcodeOf f :: operandBytesOf f := by
  rw [encode_eq_form, h]

/-- An instruction without an executed group has an opcode 0xC0-0xFF. -/
theorem opcode_of_unimpl {i : Instr} {op : Byte} (h : formOf i = .unimpl op) : 0xC0 ≤ op.toNat := by
  cases i <;> first | contradiction | (cases h; decide)

/-- The default cost of an opcode is the default table's (R137). -/
theorem costIs_of_default {op : Byte} {taken : Bool} {n : Nat} (h : zilogTState op taken = n) : CostIs op taken n := by
  intro p hp; simp [Params.tstate, hp, h]

/-! ### Registers and operands -/

/-- Writing a register operand and running the epilogue changes that register and the counters. -/
theorem onlyReg8_setReg8 (op : Byte) (r : Reg8) (v : Byte) (s : State) :
    OnlyReg8 op r v s (epilogue op false (s.setReg8 r v)) := by
  refine ⟨?_, fun q hq => ?_, fun x => ?_, ?_⟩
  · cases r <;> rfl
  · cases r <;> cases q <;> first | exact absurd rfl hq | rfl
  · cases r <;> rfl
  · cases r <;> rfl

/-- Writing a pair and running the epilogue changes that pair and the counters. -/
theorem onlyPair_setPair (op : Byte) (p : Pair) (v : Word) (s : State) :
    OnlyPair op p v s (epilogue op false (s.setPair p v)) := by
  refine ⟨?_, fun q hq => ?_, fun x => ?_, ?_⟩
  · cases p
    · exact cat_hiByte_loByte v
    · exact cat_hiByte_loByte v
    · exact cat_hiByte_loByte v
    · rfl
  · cases p <;> cases q <;> first | exact absurd rfl hq | rfl
  · cases p <;> rfl
  · cases p <;> rfl

/-- Everything reading an operand can do (R27). -/
theorem readOperand_eq_next {o : Operand8} {s : State} {v : Byte} :
    readOperand o s = .next v ↔ s.operand? o = some v := by
  cases o with
  | reg r => simp [readOperand, State.operand?]
  | memHl => exact memRead_eq_next

theorem readOperand_of_some {o : Operand8} {s : State} {v : Byte} (h : s.operand? o = some v) :
    readOperand o s = .next v := readOperand_eq_next.2 h

/-- Everything a completed operand write can do (R27): it wrote the register, or stored at HL. -/
theorem writeOperand_eq_next {o : Operand8} {v : Byte} {s t : State} (h : writeOperand o v s = .next t) :
    (∃ r, o = .reg r ∧ t = s.setReg8 r v) ∨ (o = .memHl ∧ memWrite s s.hl v = .next t) := by
  cases o with
  | reg r => exact .inl ⟨r, rfl, by cases h; rfl⟩
  | memHl => exact .inr ⟨rfl, h⟩

/-- Where the operand can be read it can be written. -/
theorem writeOperand_completes {o : Operand8} {v w : Byte} {s : State} (h : s.operand? o = some w) :
    ∃ t, writeOperand o v s = .next t := by
  cases o with
  | reg r => exact ⟨_, rfl⟩
  | memHl =>
    have hs : s.hl.toNat < s.mem.size := by
      by_contra hn
      simp [State.operand?, State.byteAt, Memory.read_eq_none.2 (Nat.le_of_not_lt hn)] at h
    exact ⟨_, memWrite_inside v hs⟩

/-- An operand read faults only at HL outside the extent, and is never refused. -/
theorem readOperand_eq_fault {o : Operand8} {s : State} {r : Fault} :
    readOperand o s = .fault r ↔ o = .memHl ∧ s.mem.size ≤ s.hl.toNat ∧ r = .memFault s.hl .read := by
  cases o <;> simp [readOperand, memRead_eq_fault]

@[simp] theorem readOperand_ne_refused (o : Operand8) (s : State) (r : Refusal) : readOperand o s ≠ .refused r := by
  cases o <;> simp [readOperand]

/-- An operand write faults only at HL outside the extent, and is never refused. -/
theorem writeOperand_eq_fault {o : Operand8} {v : Byte} {s : State} {r : Fault} :
    writeOperand o v s = .fault r ↔ o = .memHl ∧ s.mem.size ≤ s.hl.toNat ∧ r = .memFault s.hl .write := by
  cases o <;> simp [writeOperand, memWrite_eq_fault]

@[simp] theorem writeOperand_ne_refused (o : Operand8) (v : Byte) (s : State) (r : Refusal) :
    writeOperand o v s ≠ .refused r := by
  cases o <;> simp [writeOperand]

/-- A word read faults at its first address outside the extent (R53, R241). -/
theorem read16_eq_fault {s : State} {addr : Word} {r : Fault} :
    read16 s addr = .fault r ↔
      (s.mem.size ≤ addr.toNat ∧ r = .memFault addr .read) ∨
      (addr.toNat < s.mem.size ∧ s.mem.size ≤ (addr + 1).toNat ∧ r = .memFault (addr + 1) .read) := by
  have h : (∃ v, memRead s addr = .next v) ↔ addr.toNat < s.mem.size := by
    simp only [memRead_eq_next, Memory.read]; split <;> simp [*]
  simp only [read16, andThen_eq_fault, memRead_eq_fault]
  simp [h]

/-- A word write faults at its first address outside the extent (R53, R241). -/
theorem write16_eq_fault {s : State} {addr v : Word} {r : Fault} :
    write16 s addr v = .fault r ↔
      (s.mem.size ≤ addr.toNat ∧ r = .memFault addr .write) ∨
      (addr.toNat < s.mem.size ∧ s.mem.size ≤ (addr + 1).toNat ∧ r = .memFault (addr + 1) .write) := by
  by_cases h : addr.toNat < s.mem.size
  · simp [write16, memWrite_inside _ h, memWrite_eq_fault, h]
  · simp [write16, memWrite_outside _ (Nat.le_of_not_lt h), h, eq_comm, Nat.le_of_not_lt h]

/-! ### Instructions of one store or one load -/

theorem storesByte_of_exec {i : Instr} {op : Byte} {addr : Word} {v : Byte} {s : State} (hm : s.mem.wf = true)
    (h : exec i s = andThen (memWrite s addr v) fun s1 => .next (epilogue op false s1)) :
    StoresByte i op addr v s := by
  refine ⟨fun ha => ?_, fun ha => by rw [h, memWrite_outside v ha]; rfl⟩
  have hw := memWrite_inside v ha
  rw [hw] at h
  exact ⟨_, h, fun x => memWrite_byteAt hm hw x, rfl⟩

theorem loadsByte_of_exec {i : Instr} {op : Byte} {addr : Word} {r : Reg8} {s : State}
    (h : exec i s = andThen (memRead s addr) fun v => .next (epilogue op false (s.setReg8 r v))) :
    LoadsByte i op r addr s := by
  refine ⟨fun v ha => ?_, fun ha => by rw [h, memRead_outside ha]; rfl⟩
  rw [memRead_of_some ha] at h
  exact ⟨_, h, onlyReg8_setReg8 op r v s⟩

end Sys2Proof.Machine
end

