-- ==== Sys2Proof/Laws/Decode.lean ====
section
/-! SUPPORT. What each opcode byte selects, said once: the shape of its row, the encoding of the instruction the row
gives, and the displacement byte's round trip. -/

namespace Sys2Proof.Machine

/-- A displacement byte is its displacement's byte (R78). -/
theorem byteOfDisp_dispOfByte (b : Byte) : byteOfDisp (dispOfByte b) = b := by revert b; decide

/-- Every displacement byte stands for a displacement in range (R78). -/
theorem dispInRange_dispOfByte (b : Byte) : dispInRange (dispOfByte b) = true := by revert b; decide

/-- A displacement in range is its byte's displacement (R78). -/
theorem dispOfByte_byteOfDisp {d : Int} (h : dispInRange d = true) : dispOfByte (byteOfDisp d) = d := by
  simp [dispInRange] at h
  simp [dispOfByte, byteOfDisp, BitVec.toInt_ofInt]
  rw [Int.bmod_eq_of_le] <;> omega

/-- The four shapes of a row (R70), each with the encoding of the instruction it gives. -/
theorem row_spec (op : Byte) :
    (∃ i, row op = .op i ∧ encode i = [op] ∧ i.wf = true) ∨
    (∃ mk, row op = .opN mk ∧ ∀ n, encode (mk n) = [op, n] ∧ (mk n).wf = true) ∨
    (∃ mk, row op = .opD mk ∧ ∀ d, encode (mk d) = [op, byteOfDisp d] ∧ (mk d).wf = dispInRange d) ∨
    (∃ mk, row op = .opNn mk ∧ ∀ nn, encode (mk nn) = [op, loByte nn, hiByte nn] ∧ (mk nn).wf = true) := by
  have hop : op = BitVec.ofNat 8 op.toNat := by simp
  have hn : op.toNat < 256 := op.isLt
  generalize op.toNat = n at hop hn
  subst hop
  interval_cases n <;> first
    | exact .inl ⟨_, rfl, rfl, rfl⟩
    | exact .inr (.inl ⟨_, rfl, fun _ => ⟨rfl, rfl⟩⟩)
    | exact .inr (.inr (.inl ⟨_, rfl, fun _ => ⟨rfl, rfl⟩⟩))
    | exact .inr (.inr (.inr ⟨_, rfl, fun _ => ⟨rfl, rfl⟩⟩))

/-- The row of an opcode without an executed group (R75). -/
theorem row_of_unimpl {op : Byte} (h : 0xC0 ≤ op.toNat) : ∃ i, row op = .op i ∧ formOf i = .unimpl op := by
  have hop : op = BitVec.ofNat 8 op.toNat := by simp
  have hn : op.toNat < 256 := op.isLt
  generalize op.toNat = n at hop hn h
  subst hop
  interval_cases n <;> exact ⟨_, rfl, rfl⟩

/-- A byte list that starts with a byte has it at its address, and the rest behind it. -/
theorem bytesFrom_cons {s : State} {addr : Word} {n : Nat} {v : Byte} {rest : List Byte}
    (h : s.bytesFrom addr n = some (v :: rest)) :
    ∃ m, n = m + 1 ∧ s.mem.read addr.toNat = some v ∧ s.bytesFrom (addr + 1) m = some rest := by
  cases n with
  | zero => simp [State.bytesFrom] at h
  | succ m =>
    simp only [State.bytesFrom] at h
    split at h
    · rename_i h1 h2; cases h; exact ⟨m, rfl, h1, h2⟩
    · cases h

theorem bytesFrom_nil {s : State} {addr : Word} {n : Nat} (h : s.bytesFrom addr n = some []) : n = 0 := by
  cases n with
  | zero => rfl
  | succ m => simp only [State.bytesFrom] at h; split at h <;> cases h

end Sys2Proof.Machine
end

