-- ==== Sys2Proof/Tests/Slice0.lean ====
section
/-! SUPPORT. Tests of the model. Expected results are those of spec/95_test_vectors.md, or are worked out by hand from
the numbered rule named. Every theorem named witness_ shows a concrete state and operands that meet the hypotheses of
an obligation. -/

namespace Sys2Proof.Machine.Tests

/-! ### Well-formedness -/

theorem smoke_djnz_range : (Instr.djnz 128).wf = false ∧ (Instr.djnz (-129)).wf = false ∧ (Instr.djnz 127).wf = true ∧ (Instr.djnz (-128)).wf = true := by
  decide

theorem smoke_jr_range : (Instr.jr 128).wf = false ∧ (Instr.jr (-129)).wf = false ∧ (Instr.jr 127).wf = true ∧ (Instr.jr (-128)).wf = true := by
  decide

theorem smoke_jrNz_range : (Instr.jrNz 128).wf = false ∧ (Instr.jrNz (-129)).wf = false ∧ (Instr.jrNz 127).wf = true ∧ (Instr.jrNz (-128)).wf = true := by
  decide

theorem smoke_jrZ_range : (Instr.jrZ 128).wf = false ∧ (Instr.jrZ (-129)).wf = false ∧ (Instr.jrZ 127).wf = true ∧ (Instr.jrZ (-128)).wf = true := by
  decide

theorem smoke_jrNc_range : (Instr.jrNc 128).wf = false ∧ (Instr.jrNc (-129)).wf = false ∧ (Instr.jrNc 127).wf = true ∧ (Instr.jrNc (-128)).wf = true := by
  decide

theorem smoke_jrC_range : (Instr.jrC 128).wf = false ∧ (Instr.jrC (-129)).wf = false ∧ (Instr.jrC 127).wf = true ∧ (Instr.jrC (-128)).wf = true := by
  decide

/-- R261: an image of 65537 bytes is refused, one of 65536 is not. -/
theorem smoke_image_length : imageWf (List.replicate 65537 0) = false ∧ imageWf (List.replicate 65536 0) = true := by
  constructor <;> rw [imageWf, List.length_replicate] <;> decide

/-- A memory out of canonical form is refused: addresses out of order, a byte at the extent, a listed unlisted byte. -/
theorem smoke_memory_wf :
    Memory.wf { size := 4, cells := [(2, 1), (1, 1)] } = false ∧ Memory.wf { size := 4, cells := [(4, 1)] } = false ∧
    Memory.wf { size := 4, cells := [(1, 0)] } = false ∧ Memory.wf { size := 65537, cells := [] } = false ∧
    Memory.wf { size := 4, cells := [(1, 1), (3, 2)] } = true := by
  decide

theorem reset_memory_wf : State.reset.mem.wf = true := by decide

/-! ### Decoding

For each line of sixteen opcodes, the instruction each byte selects by R72-R75, with operand bytes 0x34 0x12 after an
opcode that takes two and 0xFE after one that takes one (R76-R79). -/

/-- The instruction at the head of the bytes, if all of them belong to it. -/
def decodeOne (bytes : List Byte) : Option Instr :=
  match decode bytes with
  | .ok (i, []) => some i
  | _ => none

theorem test_decode_line_0 :
    [[0x00], [0x01, 0x34, 0x12], [0x02], [0x03], [0x04], [0x05], [0x06, 0xFE], [0x07], [0x08], [0x09], [0x0A],
      [0x0B], [0x0C], [0x0D], [0x0E, 0xFE], [0x0F]].map decodeOne =
    [.nop, .ldBcNn 0x1234, .ldMemBcA, .incBc, .incB, .decB, .ldBN 0xFE, .rlca, .exAfAf, .addHlBc, .ldAMemBc,
      .decBc, .incC, .decC, .ldCN 0xFE, .rrca].map some := by
  decide

theorem test_decode_line_1 :
    [[0x10, 0xFE], [0x11, 0x34, 0x12], [0x12], [0x13], [0x14], [0x15], [0x16, 0xFE], [0x17], [0x18, 0xFE],
      [0x19], [0x1A], [0x1B], [0x1C], [0x1D], [0x1E, 0xFE], [0x1F]].map decodeOne =
    [.djnz (-2), .ldDeNn 0x1234, .ldMemDeA, .incDe, .incD, .decD, .ldDN 0xFE, .rla, .jr (-2), .addHlDe,
      .ldAMemDe, .decDe, .incE, .decE, .ldEN 0xFE, .rra].map some := by
  decide

theorem test_decode_line_2 :
    [[0x20, 0xFE], [0x21, 0x34, 0x12], [0x22, 0x34, 0x12], [0x23], [0x24], [0x25], [0x26, 0xFE], [0x27],
      [0x28, 0xFE], [0x29], [0x2A, 0x34, 0x12], [0x2B], [0x2C], [0x2D], [0x2E, 0xFE], [0x2F]].map decodeOne =
    [.jrNz (-2), .ldHlNn 0x1234, .ldMemNnHl 0x1234, .incHl, .incH, .decH, .ldHN 0xFE, .daa, .jrZ (-2), .addHlHl,
      .ldHlMemNn 0x1234, .decHl, .incL, .decL, .ldLN 0xFE, .cpl].map some := by
  decide

theorem test_decode_line_3 :
    [[0x30, 0xFE], [0x31, 0x34, 0x12], [0x32, 0x34, 0x12], [0x33], [0x34], [0x35], [0x36, 0xFE], [0x37],
      [0x38, 0xFE], [0x39], [0x3A, 0x34, 0x12], [0x3B], [0x3C], [0x3D], [0x3E, 0xFE], [0x3F]].map decodeOne =
    [.jrNc (-2), .ldSpNn 0x1234, .ldMemNnA 0x1234, .incSp, .incMemHl, .decMemHl, .ldMemHlN 0xFE, .scf,
      .jrC (-2), .addHlSp, .ldAMemNn 0x1234, .decSp, .incA, .decA, .ldAN 0xFE, .ccf].map some := by
  decide

theorem test_decode_line_4 :
    [[0x40], [0x41], [0x42], [0x43], [0x44], [0x45], [0x46], [0x47], [0x48], [0x49], [0x4A], [0x4B], [0x4C],
      [0x4D], [0x4E], [0x4F]].map decodeOne =
    [.ldBB, .ldBC, .ldBD, .ldBE, .ldBH, .ldBL, .ldBMemHl, .ldBA, .ldCB, .ldCC, .ldCD, .ldCE, .ldCH, .ldCL,
      .ldCMemHl, .ldCA].map some := by
  decide

theorem test_decode_line_5 :
    [[0x50], [0x51], [0x52], [0x53], [0x54], [0x55], [0x56], [0x57], [0x58], [0x59], [0x5A], [0x5B], [0x5C],
      [0x5D], [0x5E], [0x5F]].map decodeOne =
    [.ldDB, .ldDC, .ldDD, .ldDE, .ldDH, .ldDL, .ldDMemHl, .ldDA, .ldEB, .ldEC, .ldED, .ldEE, .ldEH, .ldEL,
      .ldEMemHl, .ldEA].map some := by
  decide

theorem test_decode_line_6 :
    [[0x60], [0x61], [0x62], [0x63], [0x64], [0x65], [0x66], [0x67], [0x68], [0x69], [0x6A], [0x6B], [0x6C],
      [0x6D], [0x6E], [0x6F]].map decodeOne =
    [.ldHB, .ldHC, .ldHD, .ldHE, .ldHH, .ldHL, .ldHMemHl, .ldHA, .ldLB, .ldLC, .ldLD, .ldLE, .ldLH, .ldLL,
      .ldLMemHl, .ldLA].map some := by
  decide

theorem test_decode_line_7 :
    [[0x70], [0x71], [0x72], [0x73], [0x74], [0x75], [0x76], [0x77], [0x78], [0x79], [0x7A], [0x7B], [0x7C],
      [0x7D], [0x7E], [0x7F]].map decodeOne =
    [.ldMemHlB, .ldMemHlC, .ldMemHlD, .ldMemHlE, .ldMemHlH, .ldMemHlL, .halt, .ldMemHlA, .ldAB, .ldAC, .ldAD,
      .ldAE, .ldAH, .ldAL, .ldAMemHl, .ldAA].map some := by
  decide

theorem test_decode_line_8 :
    [[0x80], [0x81], [0x82], [0x83], [0x84], [0x85], [0x86], [0x87], [0x88], [0x89], [0x8A], [0x8B], [0x8C],
      [0x8D], [0x8E], [0x8F]].map decodeOne =
    [.addAB, .addAC, .addAD, .addAE, .addAH, .addAL, .addAMemHl, .addAA, .adcAB, .adcAC, .adcAD, .adcAE, .adcAH,
      .adcAL, .adcAMemHl, .adcAA].map some := by
  decide

theorem test_decode_line_9 :
    [[0x90], [0x91], [0x92], [0x93], [0x94], [0x95], [0x96], [0x97], [0x98], [0x99], [0x9A], [0x9B], [0x9C],
      [0x9D], [0x9E], [0x9F]].map decodeOne =
    [.subB, .subC, .subD, .subE, .subH, .subL, .subMemHl, .subA, .sbcAB, .sbcAC, .sbcAD, .sbcAE, .sbcAH, .sbcAL,
      .sbcAMemHl, .sbcAA].map some := by
  decide

theorem test_decode_line_A :
    [[0xA0], [0xA1], [0xA2], [0xA3], [0xA4], [0xA5], [0xA6], [0xA7], [0xA8], [0xA9], [0xAA], [0xAB], [0xAC],
      [0xAD], [0xAE], [0xAF]].map decodeOne =
    [.andB, .andC, .andD, .andE, .andH, .andL, .andMemHl, .andA, .xorB, .xorC, .xorD, .xorE, .xorH, .xorL,
      .xorMemHl, .xorA].map some := by
  decide

theorem test_decode_line_B :
    [[0xB0], [0xB1], [0xB2], [0xB3], [0xB4], [0xB5], [0xB6], [0xB7], [0xB8], [0xB9], [0xBA], [0xBB], [0xBC],
      [0xBD], [0xBE], [0xBF]].map decodeOne =
    [.orB, .orC, .orD, .orE, .orH, .orL, .orMemHl, .orA, .cpB, .cpC, .cpD, .cpE, .cpH, .cpL, .cpMemHl, .cpA].map some := by
  decide

theorem test_decode_line_C :
    [[0xC0], [0xC1], [0xC2], [0xC3], [0xC4], [0xC5], [0xC6], [0xC7], [0xC8], [0xC9], [0xCA], [0xCB], [0xCC],
      [0xCD], [0xCE], [0xCF]].map decodeOne =
    [.retNz, .popBc, .jpNzNn, .jpNn, .callNzNn, .pushBc, .addAN, .rst00, .retZ, .ret, .jpZNn, .prefixCb,
      .callZNn, .callNn, .adcAN, .rst08].map some := by
  decide

theorem test_decode_line_D :
    [[0xD0], [0xD1], [0xD2], [0xD3], [0xD4], [0xD5], [0xD6], [0xD7], [0xD8], [0xD9], [0xDA], [0xDB], [0xDC],
      [0xDD], [0xDE], [0xDF]].map decodeOne =
    [.retNc, .popDe, .jpNcNn, .outPortNA, .callNcNn, .pushDe, .subN, .rst10, .retC, .exx, .jpCNn, .inAPortN,
      .callCNn, .prefixDd, .sbcAN, .rst18].map some := by
  decide

theorem test_decode_line_E :
    [[0xE0], [0xE1], [0xE2], [0xE3], [0xE4], [0xE5], [0xE6], [0xE7], [0xE8], [0xE9], [0xEA], [0xEB], [0xEC],
      [0xED], [0xEE], [0xEF]].map decodeOne =
    [.retPo, .popHl, .jpPoNn, .exMemSpHl, .callPoNn, .pushHl, .andN, .rst20, .retPe, .jpMemHl, .jpPeNn, .exDeHl,
      .callPeNn, .prefixEd, .xorN, .rst28].map some := by
  decide

theorem test_decode_line_F :
    [[0xF0], [0xF1], [0xF2], [0xF3], [0xF4], [0xF5], [0xF6], [0xF7], [0xF8], [0xF9], [0xFA], [0xFB], [0xFC],
      [0xFD], [0xFE], [0xFF]].map decodeOne =
    [.retP, .popAf, .jpPNn, .di, .callPNn, .pushAf, .orN, .rst30, .retM, .ldSpHl, .jpMNn, .ei, .callMNn,
      .prefixFd, .cpN, .rst38].map some := by
  decide

theorem test_decode_empty : decode [] = .error .noOpcode := rfl

theorem test_decode_missing_operand :
    decode [0x01, 0x34] = .error (.missingOperand 0x01) ∧ decode [0x18] = .error (.missingOperand 0x18) := ⟨rfl, rfl⟩

/-- R77 is little-endian and R78 is signed, in the numbering of spec/opcode_table.json. -/
theorem test_decode_table_word :
    decodeTableWord 24 0x123421 = some (.ldHlNn 0x1234) ∧ decodeTableWord 16 0x8010 = some (.djnz (-128)) ∧
    decodeTableWord 8 0x21 = some (.ldHlNn 0x0000) := ⟨rfl, rfl, rfl⟩

/-! ### Single steps (95_test_vectors.md, 2.2 to 2.7)

As there: the bytes stand at 0x0000, the rest of the extent is 0, a register not named is 0 and R = T = 0. -/

/-- A machine of this extent with these bytes from address 0 and these cells. -/
def machine (size : Nat) (bytes : List Byte) (cells : List Host.Cell) : State :=
  State.afterReset Params.default ResetDraw.zero (placeBytes { size := size, cells := cells } 0 bytes)

/-- The step completes and the two states satisfy a test. -/
def after (s : State) (check : State → State → Bool) : Bool :=
  match step s with
  | .next u => check s u
  | _ => false

/-- Vector "ADD overflow". -/
theorem test_step_add_overflow :
    (after ({ machine 0x40 [0x80] [] with a := 0x7F, b := 0x01 }) fun _ u => u.a == 0x80 && u.pc == 0x01 && u.t == 4 && u.f == 0x94 && u.r == 1) = true := by
  decide

/-- Vector "ADD carry to zero". -/
theorem test_step_add_carry_to_zero :
    (after ({ machine 0x40 [0x80] [] with a := 0xFF, b := 0x01 }) fun _ u => u.a == 0x00 && u.t == 4 && u.f == 0x51 && u.pc == 1 && u.r == 1) = true := by
  decide

/-- Vector "ADD A,A". -/
theorem test_step_add_a_a :
    (after ({ machine 0x40 [0x87] [] with a := 0x44 }) fun _ u => u.a == 0x88 && u.f == 0x8C && u.pc == 1 && u.r == 1) = true := by
  decide

/-- Vector "ADD A,(HL)". -/
theorem test_step_add_a_mem_hl :
    (after ({ machine 0x40 [0x86] [(0x0020, 0xF0)] with a := 0x10, h := 0x00, l := 0x20 }) fun _ u => u.a == 0x00 && u.t == 7 && u.f == 0x41 && u.pc == 1 && u.r == 1) = true := by
  decide

/-- Vector "ADD A,(HL) out of extent". -/
theorem test_step_add_a_mem_hl_out_of_extent :
    report ({ machine 0x40 [0x86] [] with a := 0x10, h := 0x01, l := 0x00 }) = .fault (.memFault 0x0100 .read) := by
  decide

/-- Vector "ADC 00+7F+1". -/
theorem test_step_adc_00_plus_7f_plus_1 :
    (after ({ machine 0x40 [0x88] [] with a := 0x00, b := 0x7F, f := 0x01 }) fun _ u => u.a == 0x80 && u.f == 0x94 && u.pc == 1 && u.r == 1) = true := by
  decide

/-- Vector "ADC 01+0F+1". -/
theorem test_step_adc_01_plus_0f_plus_1 :
    (after ({ machine 0x40 [0x88] [] with a := 0x01, b := 0x0F, f := 0x01 }) fun _ u => u.a == 0x11 && u.f == 0x10 && u.pc == 1 && u.r == 1) = true := by
  decide

/-- Vector "SUB A". -/
theorem test_step_sub_a :
    (after ({ machine 0x40 [0x97] [] with a := 0x5A }) fun _ u => u.a == 0x00 && u.f == 0x42 && u.pc == 1 && u.r == 1) = true := by
  decide

/-- Vector "SUB 00-01". -/
theorem test_step_sub_00_01 :
    (after ({ machine 0x40 [0x90] [] with a := 0x00, b := 0x01 }) fun _ u => u.a == 0xFF && u.f == 0xBB && u.pc == 1 && u.r == 1) = true := by
  decide

/-- Vector "SUB 7F-FF". -/
theorem test_step_sub_7f_ff :
    (after ({ machine 0x40 [0x90] [] with a := 0x7F, b := 0xFF }) fun _ u => u.a == 0x80 && u.f == 0x87 && u.pc == 1 && u.r == 1) = true := by
  decide

/-- Vector "SBC A,A with C". -/
theorem test_step_sbc_a_a_with_c :
    (after ({ machine 0x40 [0x9F] [] with a := 0x33, f := 0x01 }) fun _ u => u.a == 0xFF && u.f == 0xBB && u.pc == 1 && u.r == 1) = true := by
  decide

/-- Vector "SBC 00-FF-1". -/
theorem test_step_sbc_00_ff_1 :
    (after ({ machine 0x40 [0x98] [] with a := 0x00, b := 0xFF, f := 0x01 }) fun _ u => u.a == 0x00 && u.f == 0x53 && u.pc == 1 && u.r == 1) = true := by
  decide

/-- Vector "SBC 80-7F-1". -/
theorem test_step_sbc_80_7f_1 :
    (after ({ machine 0x40 [0x98] [] with a := 0x80, b := 0x7F, f := 0x01 }) fun _ u => u.a == 0x00 && u.f == 0x56 && u.pc == 1 && u.r == 1) = true := by
  decide

/-- Vector "AND to zero". -/
theorem test_step_and_to_zero :
    (after ({ machine 0x40 [0xA0] [] with a := 0xF0, b := 0x0F, f := 0xFF }) fun _ u => u.a == 0x00 && u.f == 0x54 && u.pc == 1 && u.r == 1) = true := by
  decide

/-- Vector "AND A". -/
theorem test_step_and_a :
    (after ({ machine 0x40 [0xA7] [] with a := 0xFF, f := 0x01 }) fun _ u => u.a == 0xFF && u.f == 0xBC && u.pc == 1 && u.r == 1) = true := by
  decide

/-- Vector "XOR A". -/
theorem test_step_xor_a :
    (after ({ machine 0x40 [0xAF] [] with a := 0x9C, f := 0xFF }) fun _ u => u.a == 0x00 && u.f == 0x44 && u.pc == 1 && u.r == 1) = true := by
  decide

/-- Vector "XOR". -/
theorem test_step_xor :
    (after ({ machine 0x40 [0xA8] [] with a := 0x55, b := 0xAA }) fun _ u => u.a == 0xFF && u.f == 0xAC && u.pc == 1 && u.r == 1) = true := by
  decide

/-- Vector "OR zero clears C". -/
theorem test_step_or_zero_clears_c :
    (after ({ machine 0x40 [0xB0] [] with a := 0x00, b := 0x00, f := 0x01 }) fun _ u => u.a == 0x00 && u.f == 0x44 && u.pc == 1 && u.r == 1) = true := by
  decide

/-- Vector "OR". -/
theorem test_step_or :
    (after ({ machine 0x40 [0xB0] [] with a := 0x80, b := 0x28 }) fun _ u => u.a == 0xA8 && u.f == 0xA8 && u.pc == 1 && u.r == 1) = true := by
  decide

/-- Vector "CP A". -/
theorem test_step_cp_a :
    (after ({ machine 0x40 [0xBF] [] with a := 0x42 }) fun _ u => u.a == 0x42 && u.f == 0x42 && u.pc == 1 && u.r == 1) = true := by
  decide

/-- Vector "CP less, `F35_SRC = ACC`". -/
theorem test_step_cp_less_f35_src_acc :
    (after ({ machine 0x40 [0xB8] [] with a := 0x05, b := 0x06, params := { Params.default with f35Src := .acc } }) fun _ u => u.a == 0x05 && u.f == 0x93 && u.pc == 1 && u.r == 1) = true := by
  decide

/-- Vector "CP signed overflow". -/
theorem test_step_cp_signed_overflow :
    (after ({ machine 0x40 [0xB8] [] with a := 0x80, b := 0x01 }) fun _ u => u.a == 0x80 && u.f == 0x3E && u.pc == 1 && u.r == 1) = true := by
  decide

/-- Vector "CP (HL) equal". -/
theorem test_step_cp_mem_hl_equal :
    (after ({ machine 0x40 [0xBE] [(0x0020, 0x28)] with a := 0x28, h := 0x00, l := 0x20 }) fun _ u => u.a == 0x28 && u.t == 7 && u.f == 0x42 && u.pc == 1 && u.r == 1) = true := by
  decide

/-- Vector "INC B nibble". -/
theorem test_step_inc_b_nibble :
    (after ({ machine 0x40 [0x04] [] with b := 0x0F }) fun _ u => u.b == 0x10 && u.t == 4 && u.f == 0x10 && u.pc == 1 && u.r == 1) = true := by
  decide

/-- Vector "INC B wrap keeps C". -/
theorem test_step_inc_b_wrap_keeps_c :
    (after ({ machine 0x40 [0x04] [] with b := 0xFF, f := 0x01 }) fun _ u => u.b == 0x00 && u.f == 0x51 && u.pc == 1 && u.r == 1) = true := by
  decide

/-- Vector "INC A overflow". -/
theorem test_step_inc_a_overflow :
    (after ({ machine 0x40 [0x3C] [] with a := 0x7F }) fun _ u => u.a == 0x80 && u.f == 0x94 && u.pc == 1 && u.r == 1) = true := by
  decide

/-- Vector "INC L, F3/F5 from result". -/
theorem test_step_inc_l_f3_f5_from_result :
    (after ({ machine 0x40 [0x2C] [] with l := 0x27 }) fun _ u => u.l == 0x28 && u.f == 0x28 && u.pc == 1 && u.r == 1) = true := by
  decide

/-- Vector "INC L, `F35_SRC = ACC`". -/
theorem test_step_inc_l_f35_src_acc :
    (after ({ machine 0x40 [0x2C] [] with a := 0x00, l := 0x27, params := { Params.default with f35Src := .acc } }) fun _ u => u.l == 0x28 && u.f == 0x00 && u.pc == 1 && u.r == 1) = true := by
  decide

/-- Vector "DEC C wrap". -/
theorem test_step_dec_c_wrap :
    (after ({ machine 0x40 [0x0D] [] with c := 0x00 }) fun _ u => u.c == 0xFF && u.f == 0xBA && u.pc == 1 && u.r == 1) = true := by
  decide

/-- Vector "DEC D overflow". -/
theorem test_step_dec_d_overflow :
    (after ({ machine 0x40 [0x15] [] with d := 0x80 }) fun _ u => u.d == 0x7F && u.f == 0x3E && u.pc == 1 && u.r == 1) = true := by
  decide

/-- Vector "DEC E to zero keeps C". -/
theorem test_step_dec_e_to_zero_keeps_c :
    (after ({ machine 0x40 [0x1D] [] with e := 0x01, f := 0x01 }) fun _ u => u.e == 0x00 && u.f == 0x43 && u.pc == 1 && u.r == 1) = true := by
  decide

/-- Vector "INC (HL)". -/
theorem test_step_inc_mem_hl :
    (after ({ machine 0x40 [0x34] [(0x0020, 0x7F)] with h := 0x00, l := 0x20 }) fun _ u => u.mem.read 0x0020 == some 0x80 && u.t == 11 && u.f == 0x94 && u.pc == 1 && u.r == 1) = true := by
  decide

/-- Vector "DEC (HL)". -/
theorem test_step_dec_mem_hl :
    (after ({ machine 0x40 [0x35] [(0x0020, 0x00)] with h := 0x00, l := 0x20 }) fun _ u => u.mem.read 0x0020 == some 0xFF && u.t == 11 && u.f == 0xBA && u.pc == 1 && u.r == 1) = true := by
  decide

/-- Vector "INC (HL) out of extent". -/
theorem test_step_inc_mem_hl_out_of_extent :
    report ({ machine 0x40 [0x34] [] with h := 0x00, l := 0x40 }) = .fault (.memFault 0x0040 .read) := by
  decide

/-- Vector "INC BC across halves, flags kept". -/
theorem test_step_inc_bc_across_halves_flags_kept :
    (after ({ machine 0x40 [0x03] [] with b := 0x00, c := 0xFF, f := 0xD7 }) fun _ u => u.b == 0x01 && u.c == 0x00 && u.t == 6 && u.f == 0xD7 && u.pc == 1 && u.r == 1) = true := by
  decide

/-- Vector "INC SP wrap". -/
theorem test_step_inc_sp_wrap :
    (after ({ machine 0x40 [0x33] [] with sp := 0xFFFF }) fun s u => u.sp == 0x00 && u.f == s.f && u.pc == 1 && u.r == 1) = true := by
  decide

/-- Vector "DEC DE wrap". -/
theorem test_step_dec_de_wrap :
    (after ({ machine 0x40 [0x1B] [] with d := 0x00, e := 0x00 }) fun s u => u.d == 0xFF && u.e == 0xFF && u.f == s.f && u.pc == 1 && u.r == 1) = true := by
  decide

/-- Vector "DEC HL". -/
theorem test_step_dec_hl :
    (after ({ machine 0x40 [0x2B] [] with h := 0x01, l := 0x00 }) fun _ u => u.h == 0x00 && u.l == 0xFF && u.pc == 1 && u.r == 1) = true := by
  decide

/-- Vector "ADD HL,BC half-carry, S Z PV kept". -/
theorem test_step_add_hl_bc_half_carry_s_z_pv_kept :
    (after ({ machine 0x40 [0x09] [] with h := 0x0F, l := 0xFF, b := 0x00, c := 0x01, f := 0xC4 }) fun _ u => u.h == 0x10 && u.l == 0x00 && u.t == 11 && u.f == 0xD4 && u.pc == 1 && u.r == 1) = true := by
  decide

/-- Vector "ADD HL,HL carry". -/
theorem test_step_add_hl_hl_carry :
    (after ({ machine 0x40 [0x29] [] with h := 0x80, l := 0x00, f := 0x00 }) fun _ u => u.h == 0x00 && u.l == 0x00 && u.f == 0x01 && u.pc == 1 && u.r == 1) = true := by
  decide

/-- Vector "ADD HL,DE F5". -/
theorem test_step_add_hl_de_f5 :
    (after ({ machine 0x40 [0x19] [] with h := 0x12, l := 0x34, d := 0x11, e := 0x11, f := 0x00 }) fun _ u => u.h == 0x23 && u.l == 0x45 && u.f == 0x20 && u.pc == 1 && u.r == 1) = true := by
  decide

/-- Vector "ADD HL,SP carry, Z kept". -/
theorem test_step_add_hl_sp_carry_z_kept :
    (after ({ machine 0x40 [0x39] [] with h := 0xFF, l := 0xFF, sp := 0x01, f := 0x40 }) fun _ u => u.h == 0x00 && u.l == 0x00 && u.f == 0x51 && u.pc == 1 && u.r == 1) = true := by
  decide

/-- Vector "ADD HL,DE F5 and F3". -/
theorem test_step_add_hl_de_f5_and_f3 :
    (after ({ machine 0x40 [0x19] [] with h := 0x20, l := 0x00, d := 0x08, e := 0x00, f := 0x00 }) fun _ u => u.h == 0x28 && u.l == 0x00 && u.f == 0x28 && u.pc == 1 && u.r == 1) = true := by
  decide

/-- Vector "LD DE,nn". -/
theorem test_step_ld_de_nn :
    (after (machine 0x40 [0x11, 0xCD, 0xAB] []) fun _ u => u.d == 0xAB && u.e == 0xCD && u.pc == 0x03 && u.t == 10 && u.r == 1) = true := by
  decide

/-- Vector "LD HL,nn". -/
theorem test_step_ld_hl_nn :
    (after (machine 0x40 [0x21, 0x00, 0x80] []) fun _ u => u.h == 0x80 && u.l == 0x00 && u.pc == 0x03 && u.r == 1) = true := by
  decide

/-- Vector "LD SP,nn". -/
theorem test_step_ld_sp_nn :
    (after (machine 0x40 [0x31, 0xFF, 0xFF] []) fun _ u => u.sp == 0xffff && u.pc == 0x03 && u.r == 1) = true := by
  decide

/-- Vector "LD (BC),A". -/
theorem test_step_ld_mem_bc_a :
    (after ({ machine 0x40 [0x02] [] with a := 0x99, b := 0x00, c := 0x30 }) fun _ u => u.mem.read 0x0030 == some 0x99 && u.t == 7 && u.pc == 1 && u.r == 1) = true := by
  decide

/-- Vector "LD (DE),A out of extent". -/
theorem test_step_ld_mem_de_a_out_of_extent :
    report ({ machine 0x40 [0x12] [] with a := 0x99, d := 0x00, e := 0x40 }) = .fault (.memFault 0x0040 .write) := by
  decide

/-- Vector "LD A,(BC) reads own opcode". -/
theorem test_step_ld_a_mem_bc_reads_own_opcode :
    (after ({ machine 0x40 [0x0A] [] with b := 0x00, c := 0x00 }) fun _ u => u.a == 0x0A && u.t == 7 && u.pc == 1 && u.r == 1) = true := by
  decide

/-- Vector "LD A,(DE)". -/
theorem test_step_ld_a_mem_de :
    (after ({ machine 0x40 [0x1A] [(0x0030, 0x5E)] with d := 0x00, e := 0x30 }) fun _ u => u.a == 0x5E && u.pc == 1 && u.r == 1) = true := by
  decide

/-- Vector "LD B,n". -/
theorem test_step_ld_b_n :
    (after (machine 0x40 [0x06, 0x80] []) fun _ u => u.b == 0x80 && u.pc == 0x02 && u.t == 7 && u.r == 1) = true := by
  decide

/-- Vector "LD (HL),n". -/
theorem test_step_ld_mem_hl_n :
    (after ({ machine 0x40 [0x36, 0xA5] [] with h := 0x00, l := 0x30 }) fun _ u => u.mem.read 0x0030 == some 0xA5 && u.pc == 0x02 && u.t == 10 && u.r == 1) = true := by
  decide

/-- Vector "LD (HL),n over its own operand". -/
theorem test_step_ld_mem_hl_n_over_its_own_operand :
    (after ({ machine 0x40 [0x36, 0xA5] [] with h := 0x00, l := 0x01 }) fun _ u => u.mem.read 0x0001 == some 0xA5 && u.pc == 0x02 && u.r == 1) = true := by
  decide

/-- Vector "LD B,B". -/
theorem test_step_ld_b_b :
    (after ({ machine 0x40 [0x40] [] with b := 0x12, f := 0xFF }) fun _ u => u.b == 0x12 && u.f == 0xFF && u.pc == 0x01 && u.t == 4 && u.r == 1) = true := by
  decide

/-- Vector "LD E,A". -/
theorem test_step_ld_e_a :
    (after ({ machine 0x40 [0x5F] [] with a := 0x77 }) fun _ u => u.e == 0x77 && u.pc == 1 && u.r == 1) = true := by
  decide

/-- Vector "LD H,(HL)". -/
theorem test_step_ld_h_mem_hl :
    (after ({ machine 0x40 [0x66] [(0x0030, 0x12)] with h := 0x00, l := 0x30 }) fun _ u => u.h == 0x12 && u.l == 0x30 && u.t == 7 && u.pc == 1 && u.r == 1) = true := by
  decide

/-- Vector "LD (HL),L". -/
theorem test_step_ld_mem_hl_l :
    (after ({ machine 0x40 [0x75] [] with h := 0x00, l := 0x30 }) fun _ u => u.mem.read 0x0030 == some 0x30 && u.t == 7 && u.pc == 1 && u.r == 1) = true := by
  decide

/-- Vector "LD (nn),HL". -/
theorem test_step_ld_mem_nn_hl :
    (after ({ machine 0x40 [0x22, 0x30, 0x00] [] with h := 0xBE, l := 0xEF }) fun _ u => u.mem.read 0x0030 == some 0xEF && u.mem.read 0x0031 == some 0xBE && u.t == 16 && u.pc == 3 && u.r == 1) = true := by
  decide

/-- Vector "LD (nn),HL second byte out of extent". -/
theorem test_step_ld_mem_nn_hl_second_byte_out_of_extent :
    report ({ machine 0x40 [0x22, 0x3F, 0x00] [] with h := 0xBE, l := 0xEF }) = .fault (.memFault 0x0040 .write) := by
  decide

/-- Vector "LD HL,(nn)". -/
theorem test_step_ld_hl_mem_nn :
    (after (machine 0x40 [0x2A, 0x30, 0x00] [(0x0030, 0x34), (0x0031, 0x12)]) fun _ u => u.h == 0x12 && u.l == 0x34 && u.t == 16 && u.pc == 3 && u.r == 1) = true := by
  decide

/-- Vector "LD (nn),A". -/
theorem test_step_ld_mem_nn_a :
    (after ({ machine 0x40 [0x32, 0x30, 0x00] [] with a := 0x42 }) fun _ u => u.mem.read 0x0030 == some 0x42 && u.t == 13 && u.pc == 3 && u.r == 1) = true := by
  decide

/-- Vector "LD A,(nn) reads own opcode". -/
theorem test_step_ld_a_mem_nn_reads_own_opcode :
    (after (machine 0x40 [0x3A, 0x00, 0x00] []) fun _ u => u.a == 0x3A && u.t == 13 && u.pc == 3 && u.r == 1) = true := by
  decide

/-- Vector "LD A,(nn) out of extent". -/
theorem test_step_ld_a_mem_nn_out_of_extent :
    report (machine 0x40 [0x3A, 0x00, 0x01] []) = .fault (.memFault 0x0100 .read) := by
  decide

/-- Vector "EX AF,AF'". -/
theorem test_step_ex_af_af :
    (after ({ machine 0x40 [0x08] [] with a := 0x12, f := 0x44, a' := 0x34, f' := 0x81 }) fun _ u => u.a == 0x34 && u.f == 0x81 && u.a' == 0x12 && u.f' == 0x44 && u.t == 4 && u.pc == 1 && u.r == 1) = true := by
  decide

/-- Vector "RLCA zero keeps S Z PV". -/
theorem test_step_rlca_zero_keeps_s_z_pv :
    (after ({ machine 0x40 [0x07] [] with a := 0x00, f := 0xC4 }) fun _ u => u.a == 0x00 && u.f == 0xC4 && u.pc == 1 && u.r == 1) = true := by
  decide

/-- Vector "RLCA F3/F5". -/
theorem test_step_rlca_f3_f5 :
    (after ({ machine 0x40 [0x07] [] with a := 0x14 }) fun _ u => u.a == 0x28 && u.f == 0x28 && u.pc == 1 && u.r == 1) = true := by
  decide

/-- Vector "RRCA all ones". -/
theorem test_step_rrca_all_ones :
    (after ({ machine 0x40 [0x0F] [] with a := 0xFF }) fun _ u => u.a == 0xFF && u.f == 0x29 && u.pc == 1 && u.r == 1) = true := by
  decide

/-- Vector "RLA out to C". -/
theorem test_step_rla_out_to_c :
    (after ({ machine 0x40 [0x17] [] with a := 0x80, f := 0x00 }) fun _ u => u.a == 0x00 && u.f == 0x01 && u.pc == 1 && u.r == 1) = true := by
  decide

/-- Vector "RLA C in". -/
theorem test_step_rla_c_in :
    (after ({ machine 0x40 [0x17] [] with a := 0x01, f := 0x01 }) fun _ u => u.a == 0x03 && u.f == 0x00 && u.pc == 1 && u.r == 1) = true := by
  decide

/-- Vector "RRA C in and out". -/
theorem test_step_rra_c_in_and_out :
    (after ({ machine 0x40 [0x1F] [] with a := 0x01, f := 0x01 }) fun _ u => u.a == 0x80 && u.f == 0x01 && u.pc == 1 && u.r == 1) = true := by
  decide

/-- Vector "RRA keeps S Z PV". -/
theorem test_step_rra_keeps_s_z_pv :
    (after ({ machine 0x40 [0x1F] [] with a := 0x10, f := 0xC4 }) fun _ u => u.a == 0x08 && u.f == 0xCC && u.pc == 1 && u.r == 1) = true := by
  decide

/-- Vector "V-DAA1: 15 + 27". -/
theorem test_step_v_daa1_15_plus_27 :
    (after ({ machine 0x40 [0x27] [] with a := 0x3C, f := 0x00 }) fun _ u => u.a == 0x42 && u.f == 0x14 && u.pc == 1 && u.r == 1) = true := by
  decide

/-- Vector "DAA after 00 - 01 (N = 1, C = 1)". -/
theorem test_step_daa_after_00_minus_01_mem_n_1_c_1 :
    (after ({ machine 0x40 [0x27] [] with a := 0xFF, f := 0x13 }) fun _ u => u.a == 0x99 && u.f == 0x8F && u.pc == 1 && u.r == 1) = true := by
  decide

/-- Vector "CPL". -/
theorem test_step_cpl :
    (after ({ machine 0x40 [0x2F] [] with a := 0x00, f := 0xC5 }) fun _ u => u.a == 0xFF && u.f == 0xFF && u.pc == 1 && u.r == 1) = true := by
  decide

/-- Vector "SCF". -/
theorem test_step_scf :
    (after ({ machine 0x40 [0x37] [] with a := 0x28, f := 0xD6 }) fun _ u => u.a == 0x28 && u.f == 0xED && u.pc == 1 && u.r == 1) = true := by
  decide

/-- Vector "CCF from C = 0". -/
theorem test_step_ccf_from_c_0 :
    (after ({ machine 0x40 [0x3F] [] with a := 0x00, f := 0x12 }) fun _ u => u.a == 0x00 && u.f == 0x01 && u.pc == 1 && u.r == 1) = true := by
  decide

/-- Vector "NOP". -/
theorem test_step_nop :
    (after ({ machine 0x40 [0x00] [] with f := 0xFF }) fun _ u => u.pc == 0x01 && u.r == 0x01 && u.t == 4 && u.f == 0xFF) = true := by
  decide

/-- Vector "DJNZ taken". -/
theorem test_step_djnz_taken :
    (after ({ machine 0x40 [0x10, 0xFE] [] with b := 0x02 }) fun _ u => u.b == 0x01 && u.pc == 0x00 && u.t == 13 && u.r == 1) = true := by
  decide

/-- Vector "DJNZ not taken". -/
theorem test_step_djnz_not_taken :
    (after ({ machine 0x40 [0x10, 0xFE] [] with b := 0x01 }) fun _ u => u.b == 0x00 && u.pc == 0x02 && u.t == 8 && u.r == 1) = true := by
  decide

/-- Vector "JR -2". -/
theorem test_step_jr_minus_2 :
    (after (machine 0x40 [0x18, 0xFE] []) fun _ u => u.pc == 0x00 && u.t == 12 && u.r == 1) = true := by
  decide

/-- Vector "JR -128 wraps (needs L = 65536 for the next fetch)". -/
theorem test_step_jr_minus_128_wraps_mem_needs_l_65536_for_the_next_fetch :
    (after (machine 0x40 [0x18, 0x80] []) fun _ u => u.pc == 0xff82 && u.r == 1) = true := by
  decide

/-- Vector "JR NZ taken". -/
theorem test_step_jr_nz_taken :
    (after ({ machine 0x40 [0x20, 0x04] [] with f := 0x00 }) fun _ u => u.pc == 0x06 && u.t == 12 && u.r == 1) = true := by
  decide

/-- Vector "JR NZ not taken". -/
theorem test_step_jr_nz_not_taken :
    (after ({ machine 0x40 [0x20, 0x04] [] with f := 0x40 }) fun _ u => u.pc == 0x02 && u.t == 7 && u.r == 1) = true := by
  decide

/-- Vector "JR Z taken". -/
theorem test_step_jr_z_taken :
    (after ({ machine 0x40 [0x28, 0x04] [] with f := 0x40 }) fun _ u => u.pc == 0x06 && u.t == 12 && u.r == 1) = true := by
  decide

/-- Vector "JR NC not taken". -/
theorem test_step_jr_nc_not_taken :
    (after ({ machine 0x40 [0x30, 0x04] [] with f := 0x01 }) fun _ u => u.pc == 0x02 && u.t == 7 && u.r == 1) = true := by
  decide

/-- Vector "JR C taken". -/
theorem test_step_jr_c_taken :
    (after ({ machine 0x40 [0x38, 0x04] [] with f := 0x01 }) fun _ u => u.pc == 0x06 && u.t == 12 && u.r == 1) = true := by
  decide

/-- Vector "JR C not taken". -/
theorem test_step_jr_c_not_taken :
    (after ({ machine 0x40 [0x38, 0x04] [] with f := 0xFE }) fun _ u => u.pc == 0x02 && u.t == 7 && u.r == 1) = true := by
  decide

/-- Vector "HALT". -/
theorem test_step_halt :
    (after (machine 0x40 [0x76] []) fun _ u => u.pc == 0x01 && u.r == 0x01 && u.t == 4 && u.halted == true) = true := by
  decide

/-- Vector "HALT with `HALT_SUSPENDS = false`". -/
theorem test_step_halt_with_halt_suspends_false :
    (after ({ machine 0x40 [0x76] [] with params := { Params.default with haltSuspends := false } }) fun _ u => u.pc == 0x01 && u.r == 0x01 && u.t == 4 && u.halted == false) = true := by
  decide

/-- Vector "opcode fetch at PC = L". -/
theorem test_step_opcode_fetch_at_pc_l :
    report ({ machine 0x1 [0x00] [] with pc := 0x01 }) = .fault (.memFault 0x0001 .fetch) := by
  decide

/-- Vector "empty image". -/
theorem test_step_empty_image :
    report (machine 0x0 [] []) = .fault (.memFault 0x0000 .fetch) := by
  decide

/-- Vector "x = 3 refused". -/
theorem test_step_x_3_refused :
    report (machine 0x40 [0xC9] []) = .refused (.unimplemented 0xC9) := by
  decide

/-- Vector "prefix refused". -/
theorem test_step_prefix_refused :
    report (machine 0x40 [0xCB, 0x00] []) = .refused (.unimplemented 0xCB) := by
  decide

/-- Vector "x = 3 in SKIP mode". -/
theorem test_step_x_3_in_skip_mode :
    (after ({ machine 0x40 [0xC3, 0x00, 0x00] [] with params := { Params.default with unimplMode := .skip, unimplTStates := 9 } }) fun _ u => u.pc == 0x01 && u.r == 0x01 && u.t == 9) = true := by
  decide

/-- Vector "halted step". -/
theorem test_step_halted_step :
    report ({ machine 0x40 [] [] with halted := true }) = .halted ∧ observed ({ machine 0x40 [] [] with halted := true }) = ({ machine 0x40 [] [] with halted := true }) := by
  decide

/-- Vector "R wraps". -/
theorem test_step_r_wraps :
    (after ({ machine 0x40 [0x00] [] with r := 0x7F }) fun _ u => u.r == 0x00 && u.pc == 1) = true := by
  decide

/-- A word placed by `withFetchWord` runs as the first instruction after reset: 0x3C is INC A (R180). -/
theorem test_place_inc_a : (after (State.reset.withFetchWord 8 0x3C) fun _ u => u.a == 1 && u.pc == 1) = true := by
  decide

/-- The operand words the table gives no bits are zeros: 0x21 is LD HL,0x0000 (R150). -/
theorem test_place_ld_hl : (after (State.reset.withFetchWord 8 0x21) fun _ u => u.hl == 0 && u.pc == 3) = true := by
  decide

/-! ### The display decoder (95_test_vectors.md, 2.8) -/

theorem test_display_1 : display Params.default (Memory.ofImage [0x01, 0x34, 0x12]) 0x0000 =
    ⟨"LD BC,1234h", [0x01, 0x34, 0x12], 3⟩ := by
  decide

theorem test_display_2 : display Params.default (Memory.ofImage [0x00]) 0x0000 =
    ⟨"NOP", [0x00], 1⟩ := by
  decide

theorem test_display_3 : display Params.default (Memory.ofImage [0x18, 0xFE]) 0x0000 =
    ⟨"JR FEh", [0x18, 0xFE], 2⟩ := by
  decide

theorem test_display_4 : display Params.default (Memory.ofImage [0x3C]) 0x0000 =
    ⟨"INC A", [0x3C], 1⟩ := by
  decide

theorem test_display_5 : display Params.default (Memory.ofImage [0x3E, 0x7F]) 0x0000 =
    ⟨"LD A,7Fh", [0x3E, 0x7F], 2⟩ := by
  decide

theorem test_display_6 : display Params.default (Memory.ofImage [0x22, 0x22, 0x00]) 0x0000 =
    ⟨"LD (0022h),HL", [0x22, 0x22, 0x00], 3⟩ := by
  decide

theorem test_display_7 : display Params.default (Memory.ofImage [0x2A, 0x20, 0x00]) 0x0000 =
    ⟨"LD HL,(0020h)", [0x2A, 0x20, 0x00], 3⟩ := by
  decide

theorem test_display_8 : display Params.default (Memory.ofImage [0x36, 0x5A]) 0x0000 =
    ⟨"LD (HL),5Ah", [0x36, 0x5A], 2⟩ := by
  decide

theorem test_display_9 : display Params.default (Memory.ofImage [0x76]) 0x0000 =
    ⟨"HALT", [0x76], 1⟩ := by
  decide

theorem test_display_10 : display Params.default (Memory.ofImage [0x08]) 0x0000 =
    ⟨"EX AF,AF'", [0x08], 1⟩ := by
  decide

theorem test_display_11 : display Params.default (Memory.ofImage [0x20, 0x05]) 0x0000 =
    ⟨"JR NZ,05h", [0x20, 0x05], 2⟩ := by
  decide

theorem test_display_12 : display Params.default (Memory.ofImage [0x86]) 0x0000 =
    ⟨"ADD A,(HL)", [0x86], 1⟩ := by
  decide

theorem test_display_13 : display Params.default (Memory.ofImage [0xD3, 0xFE]) 0x0000 =
    ⟨"OUT (FEh),A", [0xD3, 0xFE], 2⟩ := by
  decide

theorem test_display_14 : display Params.default (Memory.ofImage [0xC3, 0x00, 0x01]) 0x0000 =
    ⟨"JP 0100h", [0xC3, 0x00, 0x01], 3⟩ := by
  decide

theorem test_display_15 : display Params.default (Memory.ofImage [0xC6, 0x01]) 0x0000 =
    ⟨"ADD A,01h", [0xC6, 0x01], 2⟩ := by
  decide

theorem test_display_16 : display Params.default (Memory.ofImage [0xFF]) 0x0000 =
    ⟨"RST 38h", [0xFF], 1⟩ := by
  decide

theorem test_display_17 : display Params.default (Memory.ofImage [0xCB, 0x07]) 0x0000 =
    ⟨"PREFIX CB", [0xCB], 1⟩ := by
  decide

theorem test_display_18 : display Params.default (Memory.ofImage [0xDD, 0x21, 0x00, 0x00]) 0x0000 =
    ⟨"PREFIX DD", [0xDD], 1⟩ := by
  decide

theorem test_display_19 : display Params.default (Memory.ofImage [0x00, 0x01, 0x34]) 0x0001 =
    ⟨"UNRECOGNIZED", [0x01, 0x34], 3⟩ := by
  decide

theorem test_display_20 : display Params.default (Memory.ofImage [0x00, 0x01]) 0x0001 =
    ⟨"UNRECOGNIZED", [0x01], 3⟩ := by
  decide

theorem test_display_21 : display Params.default (Memory.ofImage [0x10]) 0x0000 =
    ⟨"UNRECOGNIZED", [0x10], 2⟩ := by
  decide

theorem test_display_22 : display Params.default (Memory.ofImage [0x00]) 0x0001 =
    ⟨"UNRECOGNIZED", [], 1⟩ := by
  decide

/-! ### Witnesses of the obligations' hypotheses -/

theorem witness_construct_maps :
    (List.replicate 65536 (0 : Byte)).length ≤ 65536 ∧ 65536 < (List.replicate 65537 (0 : Byte)).length := by
  rw [List.length_replicate, List.length_replicate]; decide

theorem witness_construct_wf : ∃ s, construct Params.default ResetDraw.zero [0x3E, 0x01, 0x76] = .next s := ⟨_, rfl⟩

theorem witness_step_keeps_wf :
    (machine 0x40 [0x76] []).wf = true ∧ ∃ u, step (machine 0x40 [0x76] []) = .next u ∧ u.halted = true :=
  ⟨by decide, _, rfl, rfl⟩

theorem witness_decode_encode : (Instr.jr (-128)).wf = true ∧ (Instr.jr 127).wf = true ∧ Instr.halt.wf = true := by decide

theorem witness_encode_decode :
    decode [0x18, 0x80, 0x00] = .ok (.jr (-128), [0x00]) ∧ decode [0x01, 0xFF, 0xFF] = .ok (.ldBcNn 0xFFFF, []) ∧
    decode [0xFF] = .ok (.rst38, []) := ⟨rfl, rfl, rfl⟩

theorem witness_length :
    operandCount 0x01 ≤ [(0x34 : Byte), 0x12].length ∧ [(0x34 : Byte)].length < operandCount 0x01 ∧
    ([] : List Byte).length < operandCount 0x10 ∧ operandCount 0xC3 ≤ ([] : List Byte).length := by
  decide

/-- JR -2 with its opcode at 0xFFFF and its displacement at 0x0000 (R54). -/
theorem witness_step_runs :
    let s := { machine 0x10000 [0xFE] [(0xFFFF, 0x18)] with pc := 0xFFFF }
    s.halted = false ∧ s.bytesFrom s.pc 2 = some [0x18, 0xFE] ∧ decode [0x18, 0xFE] = .ok (.jr (-2), []) := by
  decide

theorem witness_halted : { machine 0x40 [] [] with halted := true }.halted = true := rfl

theorem witness_fetch_faults :
    (machine 0 [] []).byteAt 0 = none ∧
    ((Memory.ofImage [0x18]).read 0 = some 0x18 ∧ 1 ≤ operandCount 0x18 ∧ (Memory.ofImage [0x18]).read 1 = none) ∧
    ((Memory.ofImage [0x01, 0x34]).read 0 = some 0x01 ∧ operandCount 0x01 = 2 ∧
      (Memory.ofImage [0x01, 0x34]).read 1 = some 0x34 ∧ (Memory.ofImage [0x01, 0x34]).read 2 = none) := by
  decide

theorem witness_unimplemented_fetch :
    (machine 0 [] []).byteAt 0 = none ∧
    (machine 0x40 [0xC0] []).halted = false ∧ (machine 0x40 [0xC0] []).byteAt 0 = some 0xC0 ∧
    (machine 0x40 [0xFF] []).byteAt 0 = some 0xFF ∧ Params.default.unimplMode = .refuse ∧
    { Params.default with unimplMode := .skip }.unimplMode = .skip := by
  decide

theorem witness_unimplemented_forms : formOf .retNz = .unimpl 0xC0 ∧ formOf .rst38 = .unimpl 0xFF := ⟨rfl, rfl⟩

theorem witness_nop : formOf .nop = .nop := rfl

theorem witness_ld_pair_immediate :
    formOf (.ldBcNn 0) = .ldPairNn .bc 0 ∧ formOf (.ldDeNn 0xABCD) = .ldPairNn .de 0xABCD ∧
    formOf (.ldHlNn 0x8000) = .ldPairNn .hl 0x8000 ∧ formOf (.ldSpNn 0xFFFF) = .ldPairNn .sp 0xFFFF :=
  ⟨rfl, rfl, rfl, rfl⟩

/-- BC is the last address of the extent, DE the first past it. -/
theorem witness_store_a :
    let s := { machine 0x40 [] [] with c := 0x3F, e := 0x40 }
    s.mem.wf = true ∧ formOf .ldMemBcA = .ldMemBcA ∧ s.bc.toNat < s.mem.size ∧
    formOf .ldMemDeA = .ldMemDeA ∧ s.mem.size ≤ s.de.toNat ∧
    formOf (.ldMemNnA 0x0000) = .ldMemNnA 0x0000 ∧ (0x0000 : Word).toNat < s.mem.size := by
  decide

theorem witness_load_a :
    let s := { machine 0x40 [] [(0x3F, 0x99)] with c := 0x3F, e := 0x40 }
    formOf .ldAMemBc = .ldAMemBc ∧ s.byteAt s.bc.toNat = some 0x99 ∧
    formOf .ldAMemDe = .ldAMemDe ∧ s.mem.size ≤ s.de.toNat ∧
    formOf (.ldAMemNn 0xFFFF) = .ldAMemNn 0xFFFF ∧ s.mem.size ≤ (0xFFFF : Word).toNat := by
  decide

theorem witness_ld_register_immediate :
    formOf (.ldBN 0x80) = .ldN (.reg .b) 0x80 ∧ formOf (.ldAN 0xFF) = .ldN (.reg .a) 0xFF := ⟨rfl, rfl⟩

theorem witness_ld_memory_immediate :
    formOf (.ldMemHlN 0xA5) = .ldN .memHl 0xA5 ∧ (machine 0x40 [] []).mem.wf = true ∧
    { machine 0x40 [] [] with l := 0x3F }.hl.toNat < 0x40 ∧ 0x40 ≤ { machine 0x40 [] [] with l := 0x40 }.hl.toNat := by
  decide

theorem witness_ld_register_register :
    formOf .ldBB = .ld8 (.reg .b) (.reg .b) ∧ formOf .ldEA = .ld8 (.reg .e) (.reg .a) := ⟨rfl, rfl⟩

theorem witness_ld_register_memory :
    formOf .ldHMemHl = .ld8 (.reg .h) .memHl ∧ formOf .ldAMemHl = .ld8 (.reg .a) .memHl ∧
    { machine 0x40 [0x66] [] with l := 0x00 }.byteAt 0 = some 0x66 := by
  decide

theorem witness_ld_memory_register :
    formOf .ldMemHlL = .ld8 .memHl (.reg .l) ∧ formOf .ldMemHlA = .ld8 .memHl (.reg .a) ∧
    (machine 0x40 [] []).mem.wf = true := by
  decide

/-- The word store and load: both bytes inside, the second outside, the first outside; and 0xFFFF, whose second byte
is at 0x0000 (R53). -/
theorem witness_hl_word :
    let s := machine 0x40 [] [(0x3F, 0x99)]
    s.mem.wf = true ∧ formOf (.ldMemNnHl 0x003E) = .ldMemNnHl 0x003E ∧ formOf (.ldHlMemNn 0x003E) = .ldHlMemNn 0x003E ∧
    s.byteAt (0x003E : Word).toNat = some 0x00 ∧ s.byteAt ((0x003E : Word) + 1).toNat = some 0x99 ∧
    ((0x003F : Word).toNat < s.mem.size ∧ s.mem.size ≤ ((0x003F : Word) + 1).toNat) ∧
    s.mem.size ≤ (0x0040 : Word).toNat ∧ ((0xFFFF : Word) + 1).toNat = 0 := by
  decide

theorem witness_exchange : formOf .exAfAf = .exAf := rfl

theorem witness_inc_dec_pair :
    formOf .incBc = .incPair .bc ∧ formOf .incSp = .incPair .sp ∧ formOf .decDe = .decPair .de ∧
    formOf .decHl = .decPair .hl := ⟨rfl, rfl, rfl, rfl⟩

theorem witness_add_hl : formOf .addHlHl = .addHl .hl ∧ formOf .addHlSp = .addHl .sp := ⟨rfl, rfl⟩

theorem witness_inc_dec_register :
    formOf .incB = .inc (.reg .b) ∧ formOf .incA = .inc (.reg .a) ∧ formOf .decC = .dec (.reg .c) ∧
    formOf .decA = .dec (.reg .a) := ⟨rfl, rfl, rfl, rfl⟩

theorem witness_inc_dec_memory :
    formOf .incMemHl = .inc .memHl ∧ formOf .decMemHl = .dec .memHl ∧ (machine 0x40 [] []).mem.wf = true ∧
    { machine 0x40 [] [(0x3F, 0xFF)] with l := 0x3F }.byteAt 0x3F = some 0xFF ∧
    0x40 ≤ { machine 0x40 [] [] with l := 0x40 }.hl.toNat := by
  decide

theorem witness_alu :
    formOf .addAB = .alu .add (.reg .b) ∧ formOf .adcAMemHl = .alu .adc .memHl ∧ formOf .subA = .alu .sub (.reg .a) ∧
    formOf .sbcAMemHl = .alu .sbc .memHl ∧ formOf .andMemHl = .alu .and .memHl ∧ formOf .xorA = .alu .xor (.reg .a) ∧
    formOf .orB = .alu .or (.reg .b) ∧ formOf .cpMemHl = .cp .memHl ∧ formOf .cpA = .cp (.reg .a) ∧
    { machine 0x40 [] [(0x3F, 0x7F)] with l := 0x3F }.operand? .memHl = some 0x7F ∧
    { machine 0x40 [] [] with b := 0x01 }.operand? (.reg .b) = some 0x01 := by
  decide

theorem witness_alu_outside :
    formOf .addAMemHl = .alu .add .memHl ∧ formOf .cpMemHl = .cp .memHl ∧
    { machine 0x40 [] [] with l := 0x40 }.operand? .memHl = none := by
  decide

theorem witness_accumulator :
    formOf .rlca = .acc .rlca ∧ formOf .rrca = .acc .rrca ∧ formOf .rla = .acc .rla ∧ formOf .rra = .acc .rra ∧
    formOf .daa = .acc .daa ∧ formOf .cpl = .acc .cpl ∧ formOf .scf = .acc .scf ∧ formOf .ccf = .acc .ccf :=
  ⟨rfl, rfl, rfl, rfl, rfl, rfl, rfl, rfl⟩

/-- The branch is taken from B = 0 and from B = 2, and not from B = 1. -/
theorem witness_djnz :
    formOf (.djnz (-128)) = .djnz (-128) ∧ (machine 0x40 [] []).b ≠ 1 ∧
    { machine 0x40 [] [] with b := 2 }.b ≠ 1 ∧ { machine 0x40 [] [] with b := 1 }.b = 1 := by
  decide

theorem witness_jr : formOf (.jr 127) = .jr 127 := rfl

/-- Each condition holds in one of these two states and not in the other. -/
theorem witness_jr_cc :
    formOf (.jrNz 4) = .jrCc .nz 4 ∧ formOf (.jrZ 4) = .jrCc .z 4 ∧ formOf (.jrNc 4) = .jrCc .nc 4 ∧
    formOf (.jrC 4) = .jrCc .c 4 ∧ (machine 0x40 [] []).f.getLsbD 6 = false ∧ (machine 0x40 [] []).f.getLsbD 0 = false ∧
    { machine 0x40 [] [] with f := 0x41 }.f.getLsbD 6 = true ∧ { machine 0x40 [] [] with f := 0x41 }.f.getLsbD 0 = true := by
  decide

theorem witness_halt :
    formOf .halt = .halt ∧ Params.default.haltSuspends = true ∧
    { Params.default with haltSuspends := false }.haltSuspends = false := ⟨rfl, rfl, rfl⟩

theorem witness_faults : step (machine 0 [] []) = .fault (.memFault 0 .fetch) := rfl

theorem witness_refusals : step (machine 0x40 [0xC9] []) = .refused (.unimplemented 0xC9) := rfl

/-- Steps of the three other outcomes, in which R and T are not read either. -/
theorem witness_counters_outcomes :
    step { machine 0 [] [] with r := 5, t := 9 } = .fault (.memFault 0 .fetch) ∧
    step { machine 0x40 [0xC9] [] with r := 5, t := 9 } = .refused (.unimplemented 0xC9) ∧
    ∃ u, step { machine 0x40 [] [] with halted := true, r := 5, t := 9 } = .next u ∧ u.r = 5 ∧ u.t = 9 :=
  ⟨rfl, rfl, _, rfl, rfl, rfl⟩

theorem witness_step_completes :
    (machine 0x40 [0x3C] []).halted = false ∧ ∃ u, step (machine 0x40 [0x3C] []) = .next u := ⟨rfl, _, rfl⟩

theorem witness_stores_only :
    (machine 0x40 [] []).mem.wf = true ∧ ∃ u, exec (.ldMemNnHl 0x003E) (machine 0x40 [] []) = .next u ∧
      0x3D ∉ storedAddresses (formOf (.ldMemNnHl 0x003E)) (machine 0x40 [] []) :=
  ⟨by decide, _, rfl, by decide⟩

/-- Every access inside; the first outside; the first inside and the second outside; and an opcode 0xC0-0xFF. -/
theorem witness_accesses :
    (∀ x ∈ dataAccesses (formOf (.ldMemNnHl 0x003E)) (machine 0x40 [] []), x.1.toNat < 0x40) ∧
    dataAccesses (formOf (.ldMemNnHl 0x003F)) (machine 0x40 [] []) = [(0x003F, .write)] ++ (0x0040, .write) :: [] ∧
    dataAccesses (formOf (.ldAMemNn 0x0040)) (machine 0x40 [] []) = [] ++ (0x0040, .read) :: [] ∧
    formOf .ret = .unimpl 0xC9 ∧ { Params.default with unimplMode := .skip }.unimplMode = .skip := by
  decide

/-- Each clause has an instruction that changes its register. -/
theorem witness_special_registers :
    (∃ u, exec (.jr 5) (machine 0x40 [] []) = .next u ∧ u.pc ≠ 0) ∧
    (∃ u, exec .incSp (machine 0x40 [] []) = .next u ∧ u.sp ≠ 0) ∧
    (∃ u, exec .scf (machine 0x40 [] []) = .next u ∧ u.f ≠ 0) ∧
    (∃ u, exec .exAfAf { machine 0x40 [] [] with a := 1 } = .next u ∧ u.a' ≠ 0) ∧
    (∃ u, exec .halt (machine 0x40 [] []) = .next u ∧ u.halted = true) :=
  ⟨⟨_, rfl, by decide⟩, ⟨_, rfl, by decide⟩, ⟨_, rfl, by decide⟩, ⟨_, rfl, by decide⟩, ⟨_, rfl, rfl⟩⟩

theorem witness_memory_law :
    (machine 0x40 [] [(0x3F, 0x99)]).mem.wf = true ∧ 0x3F < (machine 0x40 [] [(0x3F, 0x99)]).mem.size ∧
    (machine 0x40 [] [(0x3F, 0x99)]).mem.read 0x3F = some 0x99 := by
  decide

/-- A word placed at PC = 0xFFFF wraps (R54), over an empty extent. -/
theorem witness_placed_word :
    { machine 0 [] [] with pc := 0xFFFF }.mem.wf = true ∧ decodeTableWord 16 0xFE18 = some (.jr (-2)) := by
  decide

theorem witness_pre_added_carry : (true : Bool) = true ∧ (0x0F : Byte).toNat % 16 = 15 := by decide

theorem witness_decimal :
    (0 : Nat) < 100 ∧ (99 : Nat) < 100 ∧ { machine 0x40 [] [] with a := 0x99, b := 0x99 }.a = bcd 99 ∧
    (machine 0x40 [] []).b = bcd 0 := by
  decide

theorem witness_display_length : (0x00 : Byte).toNat < 0xC0 ∧ (0xBF : Byte).toNat < 0xC0 := by decide

/-- An address at the end, an instruction that runs past the end, and one that ends with it. -/
theorem witness_display_end :
    (Memory.ofImage [0x00]).size ≤ (0x0001 : Word).toNat ∧
    ((Memory.ofImage [0x00, 0xC3, 0x34]).read 1 = some 0xC3 ∧
      (Memory.ofImage [0x00, 0xC3, 0x34]).size < 1 + displayLength 0xC3) ∧
    ((Memory.ofImage [0xC3, 0x34, 0x12]).read 0 = some 0xC3 ∧
      0 + displayLength 0xC3 ≤ (Memory.ofImage [0xC3, 0x34, 0x12]).size) := by
  decide

end Sys2Proof.Machine.Tests
end

section
/-! PROOFS. The statements about the state (10_state.md): the flags byte, the pairs, and the registers no instruction
reaches. -/

namespace Sys2Proof.Machine

/-! ### The flags byte (R24) and the pairs (R22) -/

/-- A flags byte is the byte of its eight flags (R24): the converse of `ofByte_toByte`. -/
@[simp] theorem toByte_ofByte (f : Byte) : (Flags.ofByte f).toByte = f := by
  refine BitVec.eq_of_getElem_eq fun k hk => ?_
  interval_cases k <;> simp [Flags.ofByte]

/-- Settles O53: `flagsAre_toByte` has each flag at its bit, `toByte_ofByte` is the round trip. -/
theorem flagsByteHoldsTheEightFlags : Obligations.FlagsByteHoldsTheEightFlags := fun _ f =>
  ⟨flagsAre_toByte.2 ⟨rfl, rfl, rfl, rfl, rfl, rfl, rfl, rfl⟩, toByte_ofByte f⟩

/-- Settles O52: each view is `cat` of its halves, and `setPair_pair` is the write law. -/
theorem pairsAreTheirHalves : Obligations.PairsAreTheirHalves := fun s p q v =>
  ⟨cat_toNat s.a s.f, cat_toNat s.b s.c, cat_toNat s.d s.e, cat_toNat s.h s.l, cat_toNat s.a' s.f',
    cat_toNat s.b' s.c', cat_toNat s.d' s.e', cat_toNat s.h' s.l', setPair_pair s p q v⟩

/-! ### What reads only the reached registers (R21, R32, R33)

Every read of the state answers the same with other values in the registers no instruction reaches. -/

@[simp] theorem withUnreached_bc (s : State) (u : Unreached) : (s.withUnreached u).bc = s.bc := rfl
@[simp] theorem withUnreached_de (s : State) (u : Unreached) : (s.withUnreached u).de = s.de := rfl
@[simp] theorem withUnreached_hl (s : State) (u : Unreached) : (s.withUnreached u).hl = s.hl := rfl
@[simp] theorem withUnreached_flags (s : State) (u : Unreached) : (s.withUnreached u).flags = s.flags := rfl

@[simp] theorem withUnreached_pair (s : State) (u : Unreached) (p : Pair) : (s.withUnreached u).pair p = s.pair p := by
  cases p <;> rfl

@[simp] theorem withUnreached_reg8 (s : State) (u : Unreached) (r : Reg8) : (s.withUnreached u).reg8 r = s.reg8 r := by
  cases r <;> rfl

@[simp] theorem withUnreached_cond (s : State) (u : Unreached) (cc : Cond) :
    (s.withUnreached u).cond cc = s.cond cc := by
  cases cc <;> rfl

@[simp] theorem withUnreached_f35Source (s : State) (u : Unreached) (v : Byte) :
    (s.withUnreached u).f35Source v = s.f35Source v := rfl

@[simp] theorem memRead_withUnreached (s : State) (u : Unreached) (addr : Word) :
    memRead (s.withUnreached u) addr = memRead s addr := rfl

@[simp] theorem read16_withUnreached (s : State) (u : Unreached) (addr : Word) :
    read16 (s.withUnreached u) addr = read16 s addr := rfl

@[simp] theorem readOperand_withUnreached (s : State) (u : Unreached) (o : Operand8) :
    readOperand o (s.withUnreached u) = readOperand o s := by
  cases o <;> simp [readOperand]

/-! ### What writes only the reached registers

Every update of the state commutes with putting other values in the registers no instruction reaches. -/

@[simp] theorem setPc_withUnreached (s : State) (u : Unreached) (v : Word) :
    (s.withUnreached u).setPc v = (s.setPc v).withUnreached u := rfl

@[simp] theorem setMem_withUnreached (s : State) (u : Unreached) (m : Memory) :
    (s.withUnreached u).setMem m = (s.setMem m).withUnreached u := rfl

@[simp] theorem withFlags_withUnreached (s : State) (u : Unreached) (x : Flags) :
    (s.withUnreached u).withFlags x = (s.withFlags x).withUnreached u := rfl

@[simp] theorem epilogue_withUnreached (op : Byte) (taken : Bool) (s : State) (u : Unreached) :
    epilogue op taken (s.withUnreached u) = (epilogue op taken s).withUnreached u := rfl

@[simp] theorem setReg8_withUnreached (s : State) (u : Unreached) (r : Reg8) (v : Byte) :
    (s.withUnreached u).setReg8 r v = (s.setReg8 r v).withUnreached u := by
  cases r <;> rfl

@[simp] theorem setPair_withUnreached (s : State) (u : Unreached) (p : Pair) (v : Word) :
    (s.withUnreached u).setPair p v = (s.setPair p v).withUnreached u := by
  cases p <;> rfl

/-! ### The shared operations

`mapNext (·.withUnreached u)` goes past each of them, so it goes past an instruction made of them. -/

@[simp] theorem memWrite_withUnreached (s : State) (u : Unreached) (addr : Word) (v : Byte) :
    memWrite (s.withUnreached u) addr v = mapNext (·.withUnreached u) (memWrite s addr v) := by
  cases h : s.mem.write addr.toNat v <;> simp [memWrite, h]

@[simp] theorem writeOperand_withUnreached (o : Operand8) (v : Byte) (s : State) (u : Unreached) :
    writeOperand o v (s.withUnreached u) = mapNext (·.withUnreached u) (writeOperand o v s) := by
  cases o <;> simp [writeOperand]

@[simp] theorem write16_withUnreached (s : State) (u : Unreached) (addr v : Word) :
    write16 (s.withUnreached u) addr v = mapNext (·.withUnreached u) (write16 s addr v) := by
  simp [write16, mapNext_andThen, andThen_mapNext]

/-- What the fetch of a byte, a word or an instruction answers, with other values in the registers no instruction
reaches of the state it answers. -/
def fetchedWithUnreached {α : Type} (u : Unreached) (x : Result (α × State)) : Result (α × State) :=
  andThen x fun y => .next (y.1, y.2.withUnreached u)

theorem andThen_fetchedWithUnreached {α β : Type} (u : Unreached) (x : Result (α × State))
    (k : α × State → Result β) :
    andThen (fetchedWithUnreached u x) k = andThen x fun y => k (y.1, y.2.withUnreached u) := by
  cases x <;> rfl

theorem fetchedWithUnreached_andThen {α β : Type} (u : Unreached) (x : Result α) (k : α → Result (β × State)) :
    fetchedWithUnreached u (andThen x k) = andThen x fun y => fetchedWithUnreached u (k y) := by
  cases x <;> rfl

@[simp] theorem fetchedWithUnreached_next {α : Type} (u : Unreached) (v : α) (s : State) :
    fetchedWithUnreached u (.next (v, s)) = .next (v, s.withUnreached u) := rfl

@[simp] theorem fetch8_withUnreached (s : State) (u : Unreached) :
    fetch8 (s.withUnreached u) = fetchedWithUnreached u (fetch8 s) := by
  cases h : s.mem.read s.pc.toNat with
  | none => rw [fetch8_of_none h, fetch8_of_none (s := s.withUnreached u) h]; rfl
  | some v => rw [fetch8_of_some h, fetch8_of_some (s := s.withUnreached u) h]; rfl

@[simp] theorem fetch16_withUnreached (s : State) (u : Unreached) :
    fetch16 (s.withUnreached u) = fetchedWithUnreached u (fetch16 s) := by
  simp [fetch16, andThen_fetchedWithUnreached, fetchedWithUnreached_andThen]

/-- The fetch reads and writes no register that no instruction reaches: in each of the four formats (R70). -/
theorem fetchInstr_withUnreached (s : State) (u : Unreached) :
    fetchInstr (s.withUnreached u) = fetchedWithUnreached u (fetchInstr s) := by
  simp only [fetchInstr, fetch8_withUnreached, andThen_fetchedWithUnreached, fetchedWithUnreached_andThen]
  congr 1
  funext ⟨op, s1⟩
  cases row op <;> simp [andThen_fetchedWithUnreached, fetchedWithUnreached_andThen]

/-! ### Every form, every instruction, every step -/

theorem decrementJump_withUnreached (op : Byte) (d : Int) (s : State) (u : Unreached) :
    decrementJump op d (s.withUnreached u) = mapNext (·.withUnreached u) (decrementJump op d s) := by
  simp [decrementJump, apply_ite (mapNext _)]

theorem jumpConditional_withUnreached (op : Byte) (cc : Cond) (d : Int) (s : State) (u : Unreached) :
    jumpConditional op cc d (s.withUnreached u) = mapNext (·.withUnreached u) (jumpConditional op cc d s) := by
  simp [jumpConditional, apply_ite (mapNext _)]

theorem suspend_withUnreached (op : Byte) (s : State) (u : Unreached) :
    suspend op (s.withUnreached u) = mapNext (·.withUnreached u) (suspend op s) := by
  cases h : s.params.haltSuspends with
  | false => simp [suspend, h]
  | true => simp [suspend, h]; rfl

theorem unimplemented_withUnreached (op : Byte) (s : State) (u : Unreached) :
    unimplemented op (s.withUnreached u) = mapNext (·.withUnreached u) (unimplemented op s) := by
  cases h : s.params.unimplMode with
  | refuse => simp [unimplemented, h]
  | skip => simp [unimplemented, h]; rfl

/-- The shared operation of every form commutes with `withUnreached`. -/
theorem runForm_withUnreached (op : Byte) (f : Form) (s : State) (u : Unreached) :
    runForm op f (s.withUnreached u) = mapNext (·.withUnreached u) (runForm op f s) := by
  cases f with
  | nop => simp [runForm, noOperation]
  | exAf => rfl
  | djnz d => exact decrementJump_withUnreached op d s u
  | jr d => simp [runForm, jumpRelative]
  | jrCc cc d => exact jumpConditional_withUnreached op cc d s u
  | ldPairNn p nn => simp [runForm, loadPair]
  | addHl p => simp [runForm, addHl]
  | ldMemBcA | ldMemDeA | ldMemNnA nn => simp [runForm, storeA, mapNext_andThen, andThen_mapNext]
  | ldMemNnHl nn => simp [runForm, storeHl, mapNext_andThen, andThen_mapNext]
  | ldAMemBc | ldAMemDe | ldAMemNn nn => simp [runForm, loadA, mapNext_andThen]
  | ldHlMemNn nn => simp [runForm, loadHl, mapNext_andThen]
  | incPair p => simp [runForm, incPair]
  | decPair p => simp [runForm, decPair]
  | inc o => simp [runForm, incOperand, mapNext_andThen, andThen_mapNext]
  | dec o => simp [runForm, decOperand, mapNext_andThen, andThen_mapNext]
  | ldN dst n => simp [runForm, loadImmediate, mapNext_andThen, andThen_mapNext]
  | acc a => cases a <;> simp [runForm, accumulate]
  | ld8 dst src => simp [runForm, move8, mapNext_andThen, andThen_mapNext]
  | halt => exact suspend_withUnreached op s u
  | alu f o => simp [runForm, alu, mapNext_andThen]
  | cp o => simp [runForm, compare, mapNext_andThen]
  | unimpl op' => exact unimplemented_withUnreached op' s u

theorem exec_withUnreached (i : Instr) (s : State) (u : Unreached) :
    exec i (s.withUnreached u) = mapNext (·.withUnreached u) (exec i s) := by
  simp only [exec_eq_runForm, runForm_withUnreached]

/-- No step reads the registers no instruction reaches: the first half of O45. -/
theorem step_withUnreached (s : State) (u : Unreached) :
    step (s.withUnreached u) = mapNext (·.withUnreached u) (step s) := by
  cases h : s.halted with
  | true => rw [step_of_halted h, step_of_halted (s := s.withUnreached u) h, mapNext_next]
  | false =>
    rw [step_of_running h, step_of_running (s := s.withUnreached u) h, fetchInstr_withUnreached,
      andThen_fetchedWithUnreached, mapNext_andThen]
    simp only [exec_withUnreached]

/-- A state is itself with its own values in the registers no instruction reaches. -/
@[simp] theorem withUnreached_unreached (s : State) : s.withUnreached s.unreached = s := rfl

@[simp] theorem unreached_withUnreached (s : State) (u : Unreached) : (s.withUnreached u).unreached = u := rfl

/-- No step writes the registers no instruction reaches, because none reads them: with the state's own values put in
them the step is the same, and what it answers has those values. -/
theorem step_keeps_unreached {s t : State} (h : step s = .next t) : t.unreached = s.unreached := by
  have heq : t = t.withUnreached s.unreached := by
    simpa [h] using step_withUnreached s s.unreached
  rw [heq, unreached_withUnreached]

/-- Settles O45: a step commutes with other values in those registers, form by form, and so keeps them. -/
theorem unreachedRegistersAreNeitherReadNorWritten : Obligations.UnreachedRegistersAreNeitherReadNorWritten :=
  fun s u => ⟨step_withUnreached s u, fun _ => step_keeps_unreached⟩

end Sys2Proof.Machine
end

section
/-! PROOFS. The statement about the encoding (30_encoding.md): the length of an instruction, told from its opcode. -/

namespace Sys2Proof.Machine

/-! ### Decoding in each of the four formats (R70): with the operand bytes, and without them -/

section
variable {op : Byte} {rest : List Byte}

theorem decode_op {i : Instr} (h : row op = .op i) : decode (op :: rest) = .ok (i, rest) := by simp [decode, h]

theorem decode_opN {mk : Byte → Instr} (h : row op = .opN mk) (n : Byte) :
    decode (op :: n :: rest) = .ok (mk n, rest) := by simp [decode, h]

theorem decode_opD {mk : Int → Instr} (h : row op = .opD mk) (d : Byte) :
    decode (op :: d :: rest) = .ok (mk (dispOfByte d), rest) := by simp [decode, h]

theorem decode_opNn {mk : Word → Instr} (h : row op = .opNn mk) (lo hi : Byte) :
    decode (op :: lo :: hi :: rest) = .ok (mk (cat hi lo), rest) := by simp [decode, h]

/-- An opcode with fewer bytes behind it than its format takes is rejected by name. -/
theorem decode_missingOperand (h : rest.length < operandCount op) :
    decode (op :: rest) = .error (.missingOperand op) := by
  unfold operandCount at h
  cases hrow : row op with
  | op i => simp [hrow, Row.operandCount] at h
  | opN mk | opD mk =>
    have : rest = [] := by simpa [hrow, Row.operandCount] using h
    simp [decode, hrow, this]
  | opNn mk =>
    match rest, h with
    | [], _ | [_], _ => simp [decode, hrow]
    | _ :: _ :: _, h => simp [hrow, Row.operandCount] at h

/-- An opcode with as many bytes behind it as its format takes is decoded to an instruction of just those bytes. -/
theorem decode_of_operandCount_le (h : operandCount op ≤ rest.length) :
    ∃ i, decode (op :: rest) = .ok (i, rest.drop (operandCount op)) ∧
      encode i = op :: rest.take (operandCount op) := by
  unfold operandCount at h ⊢
  obtain ⟨i, hrow, henc, -⟩ | ⟨mk, hrow, henc⟩ | ⟨mk, hrow, henc⟩ | ⟨mk, hrow, henc⟩ := row_spec op <;>
    rw [hrow] at h ⊢
  · exact ⟨i, decode_op hrow, henc⟩
  · match rest, h with
    | n :: _, _ => exact ⟨mk n, decode_opN hrow n, (henc n).1⟩
  · match rest, h with
    | d :: _, _ =>
      exact ⟨mk (dispOfByte d), decode_opD hrow d, by
        simpa [Row.operandCount, byteOfDisp_dispOfByte] using (henc (dispOfByte d)).1⟩
  · match rest, h with
    | lo :: hi :: _, _ =>
      exact ⟨mk (cat hi lo), decode_opNn hrow lo hi, by simpa [Row.operandCount] using (henc (cat hi lo)).1⟩

end

/-- The operand bytes of each of the 256 opcodes: the lists of R79, and none after 0xC0-0xFF (R139). -/
theorem operandCount_eq (op : Byte) :
    operandCount op =
      (if op.toNat ∈ [0x01, 0x11, 0x21, 0x31, 0x22, 0x2A, 0x32, 0x3A] then 2
       else if op.toNat ∈ [0x06, 0x0E, 0x16, 0x1E, 0x26, 0x2E, 0x36, 0x3E, 0x10, 0x18, 0x20, 0x28, 0x30, 0x38] then 1
       else 0) := by
  revert op; decide

/-- Settles O8: the lists by the opcode table, the rest by the format the opcode selects. -/
theorem lengthIsToldFromTheOpcode : Obligations.LengthIsToldFromTheOpcode := fun op _ =>
  ⟨operandCount_eq op, decode_of_operandCount_le, decode_missingOperand⟩

end Sys2Proof.Machine
end

section
/-! PROOFS. The statement about the flag engine (40_alu_flag_engine.md): the flags of a subtraction read off the
two's-complement sum with the negated operand (R117). -/

namespace Sys2Proof.Machine

/-! ### The two bits a two's-complement field is judged by -/

/-- The top bit of a field of `2 * m` values is set exactly for the negative integers that fit it. -/
theorem half_le_emod_iff_neg {m t : Int} (hlo : -m ≤ t) (hhi : t < m) : t % (2 * m) ≥ m ↔ t < 0 := by
  rcases lt_or_ge t 0 with hneg | hnonneg
  · have : t % (2 * m) = t + 2 * m := by
      rw [← Int.add_emod_right, Int.emod_eq_of_lt (by omega) (by omega)]
    omega
  · rw [Int.emod_eq_of_lt hnonneg (by omega)]
    omega

/-- The range test is the 9-bit test, bit 8 against bit 7, for every integer that fits 9 signed bits: below 0 bit 7 is
that of `t + 256`, from 0 on it is that of `t`. -/
theorem overflow8_eq_xor_bits {t : Int} (hlo : -256 ≤ t) (hhi : t < 256) :
    overflow8 t = xor (decide (t % 512 ≥ 256)) (decide (t % 256 ≥ 128)) := by
  have hbit8 : t % 512 ≥ 256 ↔ t < 0 := half_le_emod_iff_neg hlo hhi
  rcases lt_or_ge t 0 with hneg | hnonneg
  · have hbit7 : t % 256 ≥ 128 ↔ ¬ t < -128 := by omega
    have hover : (t < -128 ∨ t > 127) ↔ t < -128 := by omega
    simp [overflow8, hbit8, hbit7, hover, hneg, ← decide_not]
  · have hbit7 : t % 256 ≥ 128 ↔ t > 127 := by omega
    have hover : (t < -128 ∨ t > 127) ↔ t > 127 := by omega
    simp [overflow8, hbit8, hbit7, hover, hnonneg.not_gt]

/-! ### The flags of `add8` and `sub8` as tests of an exact sum or difference -/

theorem toInt_byte_bounds (a : Byte) : -128 ≤ a.toInt ∧ a.toInt ≤ 127 :=
  ⟨BitVec.le_toInt a, Int.le_of_lt_add_one (BitVec.toInt_lt (x := a))⟩

/-- PV of an addition is the range test of its signed sum (R104). -/
theorem add8_pv (a b : Byte) (cin : Bool) :
    (add8 a b cin).flags.pv = overflow8 (a.toInt + b.toInt + cin.toNat) := rfl

/-- PV of an addition by bits 8 and 7 of its signed sum (R104), the carry in included. -/
theorem add8_pv_eq_xor_bits (a b : Byte) (cin : Bool) :
    (add8 a b cin).flags.pv =
      xor (decide ((a.toInt + b.toInt + cin.toNat) % 512 ≥ 256))
        (decide ((a.toInt + b.toInt + cin.toNat) % 256 ≥ 128)) := by
  have ha := toInt_byte_bounds a
  have hb := toInt_byte_bounds b
  have hcin := Bool.toNat_le cin
  rw [add8_pv]
  exact overflow8_eq_xor_bits (by omega) (by omega)

section
variable (a b : Byte)

/-- C of a subtraction is the sign of its whole difference (R105). -/
theorem sub8_c (cin : Bool) : (sub8 a b cin).flags.c = decide ((a.toNat : Int) - b.toNat - cin.toNat < 0) := rfl

/-- H of a subtraction is the sign of its nibble difference (R105). -/
theorem sub8_h (cin : Bool) :
    (sub8 a b cin).flags.h = decide ((a.toNat : Int) % 16 - (b.toNat : Int) % 16 - cin.toNat < 0) := rfl

/-- PV of a subtraction is the range test of its signed difference (R105). -/
theorem sub8_pv (cin : Bool) : (sub8 a b cin).flags.pv = overflow8 (a.toInt - b.toInt - cin.toNat) := rfl

theorem sub8_c_eq_bit8 :
    (sub8 a b false).flags.c = decide (((a.toNat : Int) - b.toNat) % 512 ≥ 256) := by
  have hbit8 : ((a.toNat : Int) - b.toNat) % 512 ≥ 256 ↔ (a.toNat : Int) - b.toNat < 0 :=
    half_le_emod_iff_neg (by omega) (by omega)
  simp [sub8_c, hbit8]

theorem sub8_h_eq_bit4 :
    (sub8 a b false).flags.h = decide (((a.toNat : Int) % 16 - (b.toNat : Int) % 16) % 32 ≥ 16) := by
  have hbit4 : ((a.toNat : Int) % 16 - (b.toNat : Int) % 16) % 32 ≥ 16 ↔
      (a.toNat : Int) % 16 - (b.toNat : Int) % 16 < 0 :=
    half_le_emod_iff_neg (by omega) (by omega)
  simp [sub8_h, hbit4]

theorem sub8_pv_eq_xor_bits :
    (sub8 a b false).flags.pv =
      xor (decide ((a.toInt - b.toInt) % 512 ≥ 256)) (decide ((a.toInt - b.toInt) % 256 ≥ 128)) := by
  have ha := toInt_byte_bounds a
  have hb := toInt_byte_bounds b
  rw [sub8_pv, Bool.toNat_false, Nat.cast_zero, Int.sub_zero]
  exact overflow8_eq_xor_bits (by omega) (by omega)

end

/-- Settles O54: C and H are the sign bits of fields their differences fit, and both PV tests are of integers that fit
9 signed bits. -/
theorem subtractionFlagsAreThoseOfTheNegatedSum : Obligations.SubtractionFlagsAreThoseOfTheNegatedSum :=
  fun a b cin => ⟨sub8_c_eq_bit8 a b, sub8_h_eq_bit4 a b, sub8_pv_eq_xor_bits a b, add8_pv_eq_xor_bits a b cin⟩

end Sys2Proof.Machine
end

section
/-! PROOFS. The statements about the execution cycle (41_execution_cycle.md): the opcodes without an executed group, and
the halted core. -/

namespace Sys2Proof.Machine

/-! ### Steps of a running core that end at the opcode fetch (R132, R139, R140, R244) -/

/-- A fault of the opcode fetch ends the step. -/
theorem step_of_opcode_outside {s : State} (hrun : s.halted = false) (h : s.byteAt s.pc.toNat = none) :
    step s = .fault (.memFault s.pc .fetch) := by
  rw [step_of_running hrun, fetchInstr, fetch8_of_none h, andThen_fault, andThen_fault]

/-- An opcode of format `OP` (R70) is fetched alone: whatever stands after it is not read. -/
theorem fetchInstr_of_row_op {s : State} {op : Byte} {i : Instr} (h : s.byteAt s.pc.toNat = some op)
    (hrow : row op = .op i) : fetchInstr s = .next (i, s.setPc (s.pc + 1)) := by
  simp only [fetchInstr, fetch8_of_some h, andThen_next, hrow]

/-- A step that fetches an opcode 0xC0-0xFF runs `unimplemented` for it, with PC past that one byte. -/
theorem step_of_opcode_without_group {s : State} {op : Byte} (hrun : s.halted = false)
    (h : s.byteAt s.pc.toNat = some op) (hop : 0xC0 ≤ op.toNat) :
    step s = unimplemented op (s.setPc (s.pc + 1)) := by
  obtain ⟨i, hrow, hform⟩ := row_of_unimpl hop
  rw [step_of_running hrun, fetchInstr_of_row_op h hrow, andThen_next, exec_of_form hform]
  rfl

theorem unimplemented_of_refuse {s : State} (op : Byte) (h : s.params.unimplMode = .refuse) :
    unimplemented op s = .refused (.unimplemented op) := by
  simp [unimplemented, h]

theorem unimplemented_of_skip {s : State} (op : Byte) (h : s.params.unimplMode = .skip) :
    unimplemented op s = .next { s with t := s.t + s.params.unimplTStates, r := s.r + 1 } := by
  simp [unimplemented, h]

/-- A refused step keeps nothing (R245). -/
theorem observed_of_refused {s : State} {r : Refusal} (h : step s = .refused r) : observed s = s := by
  simp [observed, h]

/-- Settles O13: the step is `unimplemented` behind the opcode fetch, and each mode is one of its two answers. -/
theorem opcodesWithoutAGroupAreRefusedOrSkipped : Obligations.OpcodesWithoutAGroupAreRefusedOrSkipped := by
  refine fun s hrun => ⟨step_of_opcode_outside hrun, fun op hbyte hop => ?_⟩
  have hstep := step_of_opcode_without_group hrun hbyte hop
  refine ⟨fun hmode => ?_, fun hmode => ?_⟩
  · have hrefused := hstep.trans (unimplemented_of_refuse op hmode)
    exact ⟨hrefused, observed_of_refused hrefused⟩
  · exact hstep.trans (unimplemented_of_skip op hmode)

/-! ### The halted core (R141, R243) -/

/-- A halted state is a fixed point of `observed`, so of every iterate of it. -/
theorem observed_iterate_of_halted {s : State} (h : s.halted = true) (n : Nat) : observed^[n] s = s :=
  Function.iterate_fixed (observed_of_halted h) n

/-- Settles O59: the observed state stays the halted one, whose report is `Halted`. -/
theorem haltedIsFinal : Obligations.HaltedIsFinal := by
  intro s n h
  rw [observed_iterate_of_halted h n]
  exact ⟨rfl, report_of_halted h⟩

end Sys2Proof.Machine
end

section
/-! PROOFS. The statements about the loads, the stores and the exchange (42_loads_exchange.md). Each one's encoding and
meaning are those of its form (`encode_of_form`, `exec_of_form`), and its cost is its row of the default table (R267). -/

namespace Sys2Proof.Machine

/-! ### The move matrix by kind of operand (R157-R159) -/

section
variable (op : Byte) (s : State)

theorem move8_reg_reg (dst src : Reg8) :
    move8 op (.reg dst) (.reg src) s = .next (epilogue op false (s.setReg8 dst (s.reg8 src))) := rfl

/-- The address is the HL before the destination is written (R136, R158). -/
theorem move8_reg_memHl (dst : Reg8) :
    move8 op (.reg dst) .memHl s =
      andThen (memRead s s.hl) fun v => .next (epilogue op false (s.setReg8 dst v)) := rfl

theorem move8_memHl_reg (src : Reg8) :
    move8 op .memHl (.reg src) s =
      andThen (memWrite s s.hl (s.reg8 src)) fun s1 => .next (epilogue op false s1) := rfl

end

/-! ### Word accesses (R53) -/

@[simp] theorem hiByte_hl (s : State) : hiByte s.hl = s.h := hiByte_cat s.h s.l
@[simp] theorem loByte_hl (s : State) : loByte s.hl = s.l := loByte_cat s.h s.l

/-- The two addresses of a word differ, also where the second wraps to 0. -/
theorem word_succ_toNat_ne (addr : Word) : (addr + 1).toNat ≠ addr.toNat := by
  simp; omega

section
variable {s t : State} {addr v : Word}

/-- A word read where both bytes exist (R53). -/
theorem read16_of_some {lo hi : Byte} (hlo : s.byteAt addr.toNat = some lo) (hhi : s.byteAt (addr + 1).toNat = some hi) :
    read16 s addr = .next (cat hi lo) := by
  simp only [read16, memRead_of_some hlo, memRead_of_some hhi, andThen_next]

/-- A word write with both addresses within the extent completes. -/
theorem write16_inside (v : Word) (hlo : addr.toNat < s.mem.size) (hhi : (addr + 1).toNat < s.mem.size) :
    ∃ t, write16 s addr v = .next t := by
  rw [write16, memWrite_inside _ hlo, andThen_next]
  exact ⟨_, memWrite_inside _ hhi⟩

/-- A word write is the byte writes of its halves, low byte first. -/
theorem write16_eq_next :
    write16 s addr v = .next t ↔
      ∃ s1, memWrite s addr (loByte v) = .next s1 ∧ memWrite s1 (addr + 1) (hiByte v) = .next t :=
  andThen_eq_next

/-- A completed word write changes memory alone. -/
theorem write16_eq_setMem (h : write16 s addr v = .next t) : t = s.setMem t.mem := by
  obtain ⟨s1, hlo, hhi⟩ := write16_eq_next.1 h
  obtain ⟨m1, -, rfl⟩ := memWrite_eq_next.1 hlo
  obtain ⟨m2, -, rfl⟩ := memWrite_eq_next.1 hhi
  rfl

/-- What the memory of a completed word write reads as. -/
theorem write16_byteAt (hs : s.mem.wf = true) (h : write16 s addr v = .next t) (x : Nat) :
    t.byteAt x =
      if x = addr.toNat then some (loByte v) else if x = (addr + 1).toNat then some (hiByte v) else s.byteAt x := by
  obtain ⟨s1, hlo, hhi⟩ := write16_eq_next.1 h
  rw [memWrite_byteAt (memWrite_wf hs hlo) hhi x, memWrite_byteAt hs hlo x]
  by_cases hx : x = addr.toNat
  · have hne : x ≠ (addr + 1).toNat := hx ▸ (word_succ_toNat_ne addr).symm
    rw [if_neg hne, if_pos hx, if_pos hx]
  · rw [if_neg hx, if_neg hx]

end

/-! ### The register loads and the moves of A -/

/-- Settles O16: `onlyPair_setPair`. -/
theorem ldPairImmediateWritesThePair : Obligations.LdPairImmediateWritesThePair := fun _ p nn s h =>
  ⟨encode_of_form h, costIs_of_default (by cases p <;> rfl), _, exec_of_form h s, onlyPair_setPair _ p nn s⟩

/-- Settles O17: each is one byte store. -/
theorem storesOfAWriteOneByte : Obligations.StoresOfAWriteOneByte := fun _ s hm =>
  ⟨fun h => ⟨encode_of_form h, costIs_of_default rfl, storesByte_of_exec hm (exec_of_form h s)⟩,
    fun h => ⟨encode_of_form h, costIs_of_default rfl, storesByte_of_exec hm (exec_of_form h s)⟩,
    fun _ h => ⟨encode_of_form h, costIs_of_default rfl, storesByte_of_exec hm (exec_of_form h s)⟩⟩

/-- Settles O18: each is one byte load. -/
theorem loadsOfAReadOneByte : Obligations.LoadsOfAReadOneByte := fun _ s =>
  ⟨fun h => ⟨encode_of_form h, costIs_of_default rfl, loadsByte_of_exec (exec_of_form h s)⟩,
    fun h => ⟨encode_of_form h, costIs_of_default rfl, loadsByte_of_exec (exec_of_form h s)⟩,
    fun _ h => ⟨encode_of_form h, costIs_of_default rfl, loadsByte_of_exec (exec_of_form h s)⟩⟩

/-- Settles O19: `onlyReg8_setReg8`. -/
theorem ldRegisterImmediateWritesTheRegister : Obligations.LdRegisterImmediateWritesTheRegister := fun _ r n s h =>
  ⟨encode_of_form h, costIs_of_default (by cases r <;> rfl), _, exec_of_form h s, onlyReg8_setReg8 _ r n s⟩

/-- Settles O20: one byte store at HL. -/
theorem ldMemoryImmediateStoresAtHl : Obligations.LdMemoryImmediateStoresAtHl := fun _ _ s h hm =>
  ⟨encode_of_form h, costIs_of_default rfl, storesByte_of_exec hm (exec_of_form h s)⟩

/-! ### The move matrix -/

/-- Settles O21: `onlyReg8_setReg8`, the value read before the write. -/
theorem ldRegisterRegisterCopies : Obligations.LdRegisterRegisterCopies := fun _ dst src s h =>
  ⟨encode_of_form h, costIs_of_default (by cases dst <;> cases src <;> rfl), _,
    (exec_of_form h s).trans (move8_reg_reg _ s dst src), onlyReg8_setReg8 _ dst (s.reg8 src) s⟩

/-- Settles O22: one byte load at the old HL. -/
theorem ldRegisterMemoryLoadsAtHl : Obligations.LdRegisterMemoryLoadsAtHl := fun _ dst s h =>
  ⟨encode_of_form h, costIs_of_default (by cases dst <;> rfl),
    loadsByte_of_exec ((exec_of_form h s).trans (move8_reg_memHl _ s dst))⟩

/-- Settles O23: one byte store at HL. -/
theorem ldMemoryRegisterStoresAtHl : Obligations.LdMemoryRegisterStoresAtHl := fun _ src s h hm =>
  ⟨encode_of_form h, costIs_of_default (by cases src <;> rfl),
    storesByte_of_exec hm ((exec_of_form h s).trans (move8_memHl_reg _ s src))⟩

/-! ### HL and a word of memory (R160, R161) -/

/-- Settles O24: the word write of HL, whose first address outside the extent faults. -/
theorem ldMemoryHlStoresBothHalves : Obligations.LdMemoryHlStoresBothHalves := by
  intro i nn s h hm
  have hexec : exec i s = storeHl 0x22 nn s := exec_of_form h s
  rw [hexec, storeHl]
  refine ⟨encode_of_form h, costIs_of_default rfl, fun hlo hhi => ?_, fun hlo => ?_, fun hlo hhi => ?_⟩
  · obtain ⟨t, ht⟩ := write16_inside s.hl hlo hhi
    have hread := write16_byteAt hm ht
    rw [loByte_hl, hiByte_hl] at hread
    rw [ht, andThen_next]
    refine ⟨_, rfl, ?_, hread⟩
    rw [write16_eq_setMem ht]
    rfl
  · rw [write16_eq_fault.2 (.inl ⟨hlo, rfl⟩), andThen_fault]
  · rw [write16_eq_fault.2 (.inr ⟨hlo, hhi, rfl⟩), andThen_fault]

/-- Settles O25: the word read, whose first address outside the extent faults, into the halves of HL. -/
theorem ldHlMemoryLoadsBothHalves : Obligations.LdHlMemoryLoadsBothHalves := by
  intro i nn s h
  have hexec : exec i s = loadHl 0x2A nn s := exec_of_form h s
  rw [hexec, loadHl]
  refine ⟨encode_of_form h, costIs_of_default rfl, fun lo hi hlo hhi => ?_, fun hlo => ?_, fun hlo hhi => ?_⟩
  · rw [read16_of_some hlo hhi, andThen_next]
    exact ⟨_, rfl, loByte_cat hi lo, hiByte_cat hi lo, fun _ => rfl, rfl⟩
  · rw [read16_eq_fault.2 (.inl ⟨hlo, rfl⟩), andThen_fault]
  · rw [read16_eq_fault.2 (.inr ⟨hlo, hhi, rfl⟩), andThen_fault]

/-! ### The exchange (R164) -/

/-- Settles O26: the exchange is its own inverse but for the counters. -/
theorem exchangeSwapsAfAndItsShadow : Obligations.ExchangeSwapsAfAndItsShadow := by
  intro i s h
  have hexec : ∀ s, exec i s = exchangeAf 0x08 s := exec_of_form h
  simp only [hexec]
  exact ⟨encode_of_form h, costIs_of_default rfl, _, _, rfl, rfl, rfl, rfl, rfl, fun _ => rfl, rfl, rfl, rfl⟩

end Sys2Proof.Machine
end

section
/-! PROOFS. The statements about the 16-bit arithmetic (43_arith16.md): a pair steps up or down mod 65536, and ADD HL,rp
writes HL and the flags of `add16` (R111). -/

namespace Sys2Proof.Machine

/-! ### INC rp and DEC rp (R170, R171) -/

/-- One up is one up mod 65536: 0xFFFF becomes 0x0000. -/
theorem word_add_one_toNat (v : Word) : (v + 1).toNat = (v.toNat + 1) % 65536 := BitVec.toNat_add v 1

/-- One down is one down mod 65536: 0x0000 becomes 0xFFFF. -/
theorem word_sub_one_toNat (v : Word) : ((v - 1).toNat : Int) = ((v.toNat : Int) - 1) % 65536 := by
  have hsub : (v - 1).toNat = (65535 + v.toNat) % 65536 := BitVec.toNat_sub v 1
  omega

/-- An instruction that writes a pair and runs the epilogue changes that pair and the counters, and the pair holds what
was written. -/
theorem onlyPair_of_exec {i : Instr} {op : Byte} {p : Pair} {v : Word} {s : State}
    (h : exec i s = .next (epilogue op false (s.setPair p v))) :
    ∃ t, exec i s = .next t ∧ OnlyPair op p (t.pair p) s t ∧ t.pair p = v := by
  have honly := onlyPair_setPair op p v s
  have hpair := honly.1
  exact ⟨_, h, hpair.symm ▸ honly, hpair⟩

/-- Settles O27: each writes the pair one step on. -/
theorem incAndDecPairStepThePair : Obligations.IncAndDecPairStepThePair := by
  refine fun i p s => ⟨fun h => ⟨encode_of_form h, costIs_of_default (by cases p <;> rfl), ?_⟩,
    fun h => ⟨encode_of_form h, costIs_of_default (by cases p <;> rfl), ?_⟩⟩
  · obtain ⟨t, hexec, honly, hpair⟩ := onlyPair_of_exec (exec_of_form h s)
    exact ⟨t, hexec, honly, by rw [hpair]; exact word_add_one_toNat _⟩
  · obtain ⟨t, hexec, honly, hpair⟩ := onlyPair_of_exec (exec_of_form h s)
    exact ⟨t, hexec, honly, by rw [hpair]; exact word_sub_one_toNat _⟩

/-! ### ADD HL,rp (R172) -/

/-- `add16` answers the sum mod 65536 (R111). -/
theorem add16_value_toNat (x y : Word) (fl : Flags) : (add16 x y fl).value.toNat = (x.toNat + y.toNat) % 65536 :=
  BitVec.toNat_ofNat _ _

/-- The flags byte of `add16` (R111): C, H, N, F5 and F3 of the sum, and S, Z and PV of the flags byte before. -/
theorem add16_flagsAre (x y : Word) (f : Byte) :
    let out := add16 x y (Flags.ofByte f)
    FlagsAre out.flags.toByte (f.getLsbD 7) (f.getLsbD 6) (out.value.getLsbD 13)
      (decide (x.toNat % 4096 + y.toNat % 4096 > 4095)) (out.value.getLsbD 11) (f.getLsbD 2) false
      (decide (x.toNat + y.toNat > 65535)) :=
  flagsAre_toByte.2 ⟨rfl, rfl, rfl, rfl, rfl, rfl, rfl, rfl⟩

/-- HL is the word written to it, also when the flags are written and the epilogue runs after. -/
theorem hl_epilogue_withFlags_setPair (op : Byte) (s : State) (v : Word) (x : Flags) :
    (epilogue op false ((s.setPair .hl v).withFlags x)).hl = v := cat_hiByte_loByte v

/-- Settles O28: HL takes the value of `add16` and F its flags; the rest is the epilogue's. -/
theorem addHlAddsThePairAndKeepsSZPv : Obligations.AddHlAddsThePairAndKeepsSZPv := by
  refine fun i p s h =>
    ⟨encode_of_form h, costIs_of_default (by cases p <;> rfl), _, exec_of_form h s, ?_, ?_, fun _ => rfl, rfl⟩
  · rw [hl_epilogue_withFlags_setPair]
    exact add16_value_toNat s.hl (s.pair p) s.flags
  · rw [hl_epilogue_withFlags_setPair]
    exact add16_flagsAre s.hl (s.pair p) s.f

end Sys2Proof.Machine
end

section
/-! PROOFS. The statements about the 8-bit arithmetic and logic (44_arith8.md). The ALU operations that write A share
one shape, which the flag engine's function of each fills in; INC and DEC share another, over either kind of operand. -/

namespace Sys2Proof.Machine

/-! ### Operands (R27, R52) and costs (R184) -/

/-- Only the memory operand can be missing, and its read faults (R52). -/
theorem readOperand_of_none {o : Operand8} {s : State} (h : s.operand? o = none) :
    readOperand o s = .fault (.memFault s.hl .read) := by
  cases o with
  | reg r => exact nomatch h
  | memHl => exact memRead_outside (Memory.read_eq_none.1 h)

/-- The default cost of the opcodes 0x80-0xBF, by their operand (R267). -/
theorem zilogTState_alu (y : BitVec 3) (o : Operand8) : zilogTState (0b10#2 ++ y ++ o.code) false = aluCost o := by
  cases o with
  | reg r => cases r <;> revert y <;> decide
  | memHl => revert y; decide

/-- F5 and F3 of INC, DEC and CP come from the result or from A, as F35_SRC says (R102). -/
theorem f35Source_eq (s : State) (w : Byte) : s.f35Source w = if s.params.f35Src = .result then w else s.a := by
  cases h : s.params.f35Src <;> simp [State.f35Source, h]

/-! ### The operations that write A (R184-R191) -/

section
variable {i : Instr} {f : AluOp} {o : Operand8} {s : State} {v : Byte} {cin : Bool}

theorem exec_alu_of_none (h : formOf i = .alu f o) (ho : s.operand? o = none) :
    exec i s = .fault (.memFault s.hl .read) := by
  have hexec : exec i s = alu _ f o s := exec_of_form h s
  rw [hexec, alu, readOperand_of_none ho, andThen_fault]

/-- With its operand readable, an ALU operation writes A and F as its flag-engine function answers, and no more. -/
theorem exec_alu_of_some {out : AluOut} (h : formOf i = .alu f o) (hv : s.operand? o = some v)
    (hout : f.apply s.a v s.flags.c = out) :
    ∃ t, exec i s = .next t ∧ OnlyAF (0b10#2 ++ f.code ++ o.code) s t ∧ t.a = out.value ∧
      t.f = out.flags.toByte := by
  subst hout
  have hexec : exec i s = alu _ f o s := exec_of_form h s
  rw [hexec, alu, readOperand_of_some hv, andThen_next]
  exact ⟨_, rfl, ⟨rfl, fun _ => rfl⟩, rfl, rfl⟩

/-- `add8` answers the whole sum mod 256 (R104). -/
theorem add8_value_toNat (a b : Byte) (cin : Bool) :
    (add8 a b cin).value.toNat = (a.toNat + b.toNat + cin.toNat) % 256 := BitVec.toNat_ofNat _ _

/-- `sub8` answers the whole difference mod 256 (R105). -/
theorem sub8_value_toNat (a b : Byte) (cin : Bool) :
    ((sub8 a b cin).value.toNat : Int) = ((a.toNat : Int) - b.toNat - cin.toNat) % 256 := by
  have h : (sub8 a b cin).value.toNat = (((a.toNat : Int) - b.toNat - cin.toNat) % 256).toNat :=
    BitVec.toNat_ofInt _
  omega

/-- An operation that adds with carry in `cin` (R185, R186). -/
theorem exec_alu_sum (h : formOf i = .alu f o) (hv : s.operand? o = some v)
    (hout : f.apply s.a v s.flags.c = add8 s.a v cin) :
    ∃ t, exec i s = .next t ∧ t.a.toNat = (s.a.toNat + v.toNat + cin.toNat) % 256 ∧
      OnlyAF (0b10#2 ++ f.code ++ o.code) s t ∧
      FlagsAre t.f (t.a.getLsbD 7) (decide (t.a = 0)) (t.a.getLsbD 5)
        (decide (s.a.toNat % 16 + v.toNat % 16 + cin.toNat > 15)) (t.a.getLsbD 3)
        (overflow8 (s.a.toInt + v.toInt + cin.toNat)) false (decide (s.a.toNat + v.toNat + cin.toNat > 255)) := by
  obtain ⟨t, hexec, honly, ha, hf⟩ := exec_alu_of_some h hv hout
  refine ⟨t, hexec, ?_, honly, ?_⟩
  · rw [ha, add8_value_toNat]
  · rw [ha, hf]
    exact flagsAre_toByte.2 ⟨rfl, rfl, rfl, rfl, rfl, rfl, rfl, rfl⟩

/-- An operation that subtracts with borrow in `cin` (R187, R188). -/
theorem exec_alu_difference (h : formOf i = .alu f o) (hv : s.operand? o = some v)
    (hout : f.apply s.a v s.flags.c = sub8 s.a v cin) :
    ∃ t, exec i s = .next t ∧ (t.a.toNat : Int) = ((s.a.toNat : Int) - v.toNat - cin.toNat) % 256 ∧
      OnlyAF (0b10#2 ++ f.code ++ o.code) s t ∧
      FlagsAre t.f (t.a.getLsbD 7) (decide (t.a = 0)) (t.a.getLsbD 5)
        (decide ((s.a.toNat : Int) % 16 - (v.toNat : Int) % 16 - cin.toNat < 0)) (t.a.getLsbD 3)
        (overflow8 (s.a.toInt - v.toInt - cin.toNat)) true
        (decide ((s.a.toNat : Int) - v.toNat - cin.toNat < 0)) := by
  obtain ⟨t, hexec, honly, ha, hf⟩ := exec_alu_of_some h hv hout
  refine ⟨t, hexec, ?_, honly, ?_⟩
  · rw [ha, sub8_value_toNat]
  · rw [ha, hf]
    exact flagsAre_toByte.2 ⟨rfl, rfl, rfl, sub8_h s.a v cin, rfl, rfl, rfl, rfl⟩

/-- An operation that answers the byte `w`, with H as given (R189-R191). -/
theorem exec_alu_logic {w : Byte} {half : Bool} (h : formOf i = .alu f o) (hv : s.operand? o = some v)
    (hout : f.apply s.a v s.flags.c = logicOut w half) :
    ∃ t, exec i s = .next t ∧ OnlyAF (0b10#2 ++ f.code ++ o.code) s t ∧ t.a = w ∧
      FlagsAre t.f (t.a.getLsbD 7) (decide (t.a = 0)) (t.a.getLsbD 5) half (t.a.getLsbD 3)
        (decide (((List.range 8).filter fun k => t.a.getLsbD k).length % 2 = 0)) false false := by
  obtain ⟨t, hexec, honly, ha, hf⟩ := exec_alu_of_some h hv hout
  refine ⟨t, hexec, honly, ha, ?_⟩
  rw [ha, hf]
  exact flagsAre_toByte.2 ⟨rfl, rfl, rfl, rfl, rfl, parity_eq_count w, rfl, rfl⟩

end

/-- Settles O31: each is `add8`, with its own carry in. -/
theorem addAndAdcSetTheFlagsOfTheWholeSum : Obligations.AddAndAdcSetTheFlagsOfTheWholeSum := by
  refine fun i f o s h hadd => ⟨encode_of_form h, costIs_of_default (zilogTState_alu f.code o), exec_alu_of_none h,
    fun v hv => ?_⟩
  rcases hadd with rfl | rfl
  · exact exec_alu_sum (cin := false) h hv rfl
  · exact exec_alu_sum (cin := s.f.getLsbD 0) h hv rfl

/-- Settles O32: each is `sub8`, with its own borrow in. -/
theorem subAndSbcSetTheFlagsOfTheWholeDifference : Obligations.SubAndSbcSetTheFlagsOfTheWholeDifference := by
  refine fun i f o s h hsub => ⟨encode_of_form h, costIs_of_default (zilogTState_alu f.code o), exec_alu_of_none h,
    fun v hv => ?_⟩
  rcases hsub with rfl | rfl
  · exact exec_alu_difference (cin := false) h hv rfl
  · exact exec_alu_difference (cin := s.f.getLsbD 0) h hv rfl

/-- Settles O33: each is `logicOut` of its bitwise operation, H set by AND alone. -/
theorem logicWorksBitByBit : Obligations.LogicWorksBitByBit := by
  refine fun i f o s h hlogic => ⟨encode_of_form h, costIs_of_default (zilogTState_alu f.code o), exec_alu_of_none h,
    fun v hv => ?_⟩
  rcases hlogic with rfl | rfl | rfl
  · obtain ⟨t, hexec, honly, ha, hflags⟩ := exec_alu_logic (w := s.a &&& v) (half := true) h hv rfl
    exact ⟨t, hexec, honly, fun k => ha ▸ BitVec.getLsbD_and, hflags⟩
  · obtain ⟨t, hexec, honly, ha, hflags⟩ := exec_alu_logic (w := s.a ^^^ v) (half := false) h hv rfl
    exact ⟨t, hexec, honly, fun k => ha ▸ BitVec.getLsbD_xor, hflags⟩
  · obtain ⟨t, hexec, honly, ha, hflags⟩ := exec_alu_logic (w := s.a ||| v) (half := false) h hv rfl
    exact ⟨t, hexec, honly, fun k => ha ▸ BitVec.getLsbD_or, hflags⟩

/-! ### CP (R192) -/

/-- The difference CP discards. -/
theorem sub8_false_value (a b : Byte) : (sub8 a b false).value = BitVec.ofInt 8 ((a.toNat : Int) - b.toNat) := by
  simp [sub8]

/-- The difference of two bytes is 0 mod 256 only where they are equal. -/
theorem sub8_false_value_eq_zero (a b : Byte) : (sub8 a b false).value = 0 ↔ a = b := by
  have hvalue := sub8_value_toNat a b false
  rw [Bool.toNat_false] at hvalue
  rw [← BitVec.toNat_inj, ← BitVec.toNat_inj, show (0 : Byte).toNat = 0 from rfl]
  omega

/-- The flags of CP (R192), F5 and F3 from the byte `x`: Z tells equality, C and H the order of the bytes and of their
low nibbles. -/
theorem sub8_false_flagsAre (a b x : Byte) :
    FlagsAre ((sub8 a b false).flags.f35 x).toByte ((sub8 a b false).value.getLsbD 7) (decide (a = b)) (x.getLsbD 5)
      (decide (a.toNat % 16 < b.toNat % 16)) (x.getLsbD 3) (overflow8 (a.toInt - b.toInt)) true
      (decide (a.toNat < b.toNat)) := by
  have hz : (sub8 a b false).flags.z = decide (a = b) := decide_eq_decide.2 (sub8_false_value_eq_zero a b)
  have hh : (sub8 a b false).flags.h = decide (a.toNat % 16 < b.toNat % 16) := by
    rw [sub8_h, decide_eq_decide, Bool.toNat_false]
    omega
  have hpv : (sub8 a b false).flags.pv = overflow8 (a.toInt - b.toInt) := by
    rw [sub8_pv, Bool.toNat_false, Nat.cast_zero, Int.sub_zero]
  have hc : (sub8 a b false).flags.c = decide (a.toNat < b.toNat) := by
    rw [sub8_c, decide_eq_decide, Bool.toNat_false]
    omega
  exact flagsAre_toByte.2 ⟨rfl, hz, rfl, hh, rfl, hpv, rfl, hc⟩

theorem compare_of_some (op : Byte) {o : Operand8} {s : State} {v : Byte} (hv : s.operand? o = some v) :
    compare op o s = .next (epilogue op false
      (s.withFlags ((sub8 s.a v false).flags.f35 (s.f35Source (sub8 s.a v false).value)))) := by
  rw [compare, readOperand_of_some hv, andThen_next]

/-- Settles O34: the flags of `sub8` without borrow in, and nothing but F and the counters written. -/
theorem compareSetsFlagsOnly : Obligations.CompareSetsFlagsOnly := by
  intro i o s h
  have hexec : exec i s = compare (0b10111#5 ++ o.code) o s := exec_of_form h s
  refine ⟨encode_of_form h, costIs_of_default ?_, fun ho => ?_, fun v hv => ?_⟩
  · exact zilogTState_alu 7 o
  · rw [hexec, compare, readOperand_of_none ho, andThen_fault]
  · have hflags := sub8_false_flagsAre s.a v (s.f35Source (sub8 s.a v false).value)
    rw [sub8_false_value, f35Source_eq] at hflags
    have hrun := compare_of_some (0b10111#5 ++ o.code) hv
    rw [sub8_false_value, f35Source_eq] at hrun
    exact ⟨_, hexec.trans hrun, fun _ => rfl, rfl, hflags⟩

/-! ### INC and DEC (R180-R183) -/

/-- The shape INC and DEC share: read the operand, write back what `g` answers, F5 and F3 as R102 says. -/
def modifyOperand (op : Byte) (o : Operand8) (g : Byte → AluOut) (s : State) : Result State :=
  andThen (readOperand o s) fun v =>
  andThen (writeOperand o (g v).value s) fun s1 =>
  .next (epilogue op false (s1.withFlags ((g v).flags.f35 (s1.f35Source (g v).value))))

theorem incOperand_eq_modifyOperand (op : Byte) (o : Operand8) (s : State) :
    incOperand op o s = modifyOperand op o (inc8 · s.flags) s := rfl

theorem decOperand_eq_modifyOperand (op : Byte) (o : Operand8) (s : State) :
    decOperand op o s = modifyOperand op o (dec8 · s.flags) s := rfl

/-- Writing a register and writing the flags touch different fields. -/
theorem setReg8_withFlags (s : State) (r : Reg8) (v : Byte) (x : Flags) :
    (s.setReg8 r v).withFlags x = (s.withFlags x).setReg8 r v := by
  cases r <;> rfl

/-- Writing a register, then the flags, and running the epilogue changes that register, F and the counters. -/
theorem onlyReg8_setReg8_withFlags (op : Byte) (r : Reg8) (v : Byte) (x : Flags) (s : State) :
    OnlyReg8 op r v (s.withFlags x) (epilogue op false ((s.setReg8 r v).withFlags x)) := by
  rw [setReg8_withFlags]
  exact onlyReg8_setReg8 op r v (s.withFlags x)

section
variable (op : Byte) (g : Byte → AluOut) (s : State)

/-- The register forms write the register and F; where F35_SRC names A, it is A after that write (R102). -/
theorem modifyOperand_reg (r : Reg8) :
    ∃ t, modifyOperand op (.reg r) g s = .next t ∧ t.reg8 r = (g (s.reg8 r)).value ∧
      OnlyReg8 op r (t.reg8 r) { s with f := t.f } t ∧
      t.f = ((g (s.reg8 r)).flags.f35 (if s.params.f35Src = .result then t.reg8 r else t.a)).toByte := by
  have honly := onlyReg8_setReg8_withFlags op r (g (s.reg8 r)).value
    ((g (s.reg8 r)).flags.f35 ((s.setReg8 r (g (s.reg8 r)).value).f35Source (g (s.reg8 r)).value)) s
  have hr := honly.1
  refine ⟨_, rfl, hr, hr.symm ▸ honly, ?_⟩
  rw [hr, epilogue_f, withFlags_f, f35Source_eq, setReg8_params]
  rfl

/-- The memory forms store at HL and write F. -/
theorem modifyOperand_memHl {v : Byte} (hm : s.mem.wf = true) (hv : s.byteAt s.hl.toNat = some v) :
    ∃ t, modifyOperand op .memHl g s = .next t ∧ ByteStored s.hl (g v).value s t ∧
      OnlyCounters op false { s with mem := t.mem, f := t.f } t ∧
      t.f = ((g v).flags.f35 (if s.params.f35Src = .result then (g v).value else s.a)).toByte := by
  have hread : readOperand .memHl s = .next v := readOperand_of_some hv
  obtain ⟨s1, hwrite⟩ := writeOperand_completes (o := .memHl) (v := (g v).value) hv
  have hstored : ByteStored s.hl (g v).value s s1 := memWrite_byteAt hm hwrite
  obtain ⟨m, -, rfl⟩ := memWrite_eq_next.1 hwrite
  rw [modifyOperand, hread, andThen_next, hwrite, andThen_next, f35Source_eq]
  exact ⟨_, rfl, hstored, rfl, rfl⟩

theorem modifyOperand_outside (h : s.mem.size ≤ s.hl.toNat) :
    modifyOperand op .memHl g s = .fault (.memFault s.hl .read) := by
  rw [modifyOperand, readOperand_eq_fault.2 ⟨rfl, h, rfl⟩, andThen_fault]

end

/-- One up is one up mod 256: 0xFF becomes 0x00. -/
theorem byte_add_one_toNat (v : Byte) : (v + 1).toNat = (v.toNat + 1) % 256 := BitVec.toNat_add v 1

/-- One down is one down mod 256: 0x00 becomes 0xFF. -/
theorem byte_sub_one_toNat (v : Byte) : ((v - 1).toNat : Int) = ((v.toNat : Int) - 1) % 256 := by
  have hsub : (v - 1).toNat = (255 + v.toNat) % 256 := BitVec.toNat_sub v 1
  omega

theorem byte_add_one_eq_ofNat (v : Byte) : v + 1 = BitVec.ofNat 8 (v.toNat + 1) :=
  BitVec.eq_of_toNat_eq (BitVec.toNat_add v 1)

theorem byte_sub_one_eq_ofNat (v : Byte) : v - 1 = BitVec.ofNat 8 (v.toNat + 255) :=
  BitVec.eq_of_toNat_eq (by rw [BitVec.toNat_sub, Nat.add_comm]; rfl)

/-- The flags of INC (R106), C preserved and F5 and F3 from the byte `x`. -/
theorem inc8_flagsAre (v f x : Byte) :
    FlagsAre ((inc8 v (Flags.ofByte f)).flags.f35 x).toByte ((v + 1).getLsbD 7) (decide (v + 1 = 0)) (x.getLsbD 5)
      (decide (v.toNat % 16 = 15)) (x.getLsbD 3) (decide (v + 1 = 0x80)) false (f.getLsbD 0) :=
  flagsAre_toByte.2 ⟨rfl, rfl, rfl, rfl, rfl, rfl, rfl, rfl⟩

/-- The flags of DEC (R107), C preserved and F5 and F3 from the byte `x`. -/
theorem dec8_flagsAre (v f x : Byte) :
    FlagsAre ((dec8 v (Flags.ofByte f)).flags.f35 x).toByte ((v - 1).getLsbD 7) (decide (v - 1 = 0)) (x.getLsbD 5)
      (decide (v.toNat % 16 = 0)) (x.getLsbD 3) (decide (v - 1 = 0x7F)) true (f.getLsbD 0) :=
  flagsAre_toByte.2 ⟨rfl, rfl, rfl, rfl, rfl, rfl, rfl, rfl⟩

/-- Settles O29: each is `modifyOperand` of a register. -/
theorem incAndDecRegisterSetTheirFlags : Obligations.IncAndDecRegisterSetTheirFlags := by
  refine fun i r s => ⟨fun h => ⟨encode_of_form h, costIs_of_default (by cases r <;> rfl), ?_⟩,
    fun h => ⟨encode_of_form h, costIs_of_default (by cases r <;> rfl), ?_⟩⟩
  · obtain ⟨t, hrun, hr, honly, hf⟩ := modifyOperand_reg (0b00#2 ++ r.code ++ 0b100#3) (inc8 · s.flags) s r
    have hw : t.reg8 r = s.reg8 r + 1 := hr
    refine ⟨t, (exec_of_form h s).trans hrun, by rw [hw, byte_add_one_toNat], honly, ?_⟩
    rw [hf, hw]
    exact inc8_flagsAre (s.reg8 r) s.f _
  · obtain ⟨t, hrun, hr, honly, hf⟩ := modifyOperand_reg (0b00#2 ++ r.code ++ 0b101#3) (dec8 · s.flags) s r
    have hw : t.reg8 r = s.reg8 r - 1 := hr
    refine ⟨t, (exec_of_form h s).trans hrun, by rw [hw, byte_sub_one_toNat], honly, ?_⟩
    rw [hf, hw]
    exact dec8_flagsAre (s.reg8 r) s.f _

/-- Settles O30: each is `modifyOperand` of the byte at HL. -/
theorem incAndDecMemorySetTheirFlags : Obligations.IncAndDecMemorySetTheirFlags := by
  refine fun i s hm => ⟨fun h => ⟨encode_of_form h, costIs_of_default rfl,
      fun hs => (exec_of_form h s).trans (modifyOperand_outside _ _ s hs), fun v hv => ?_⟩,
    fun h => ⟨encode_of_form h, costIs_of_default rfl,
      fun hs => (exec_of_form h s).trans (modifyOperand_outside _ _ s hs), fun v hv => ?_⟩⟩
  · obtain ⟨t, hrun, hstored, honly, hf⟩ := modifyOperand_memHl 0x34 (inc8 · s.flags) s hm hv
    rw [← byte_add_one_eq_ofNat]
    refine ⟨t, (exec_of_form h s).trans hrun, hstored, honly, ?_⟩
    rw [hf]
    exact inc8_flagsAre v s.f _
  · obtain ⟨t, hrun, hstored, honly, hf⟩ := modifyOperand_memHl 0x35 (dec8 · s.flags) s hm hv
    rw [← byte_sub_one_eq_ofNat]
    refine ⟨t, (exec_of_form h s).trans hrun, hstored, honly, ?_⟩
    rw [hf]
    exact dec8_flagsAre v s.f _

end Sys2Proof.Machine
end

section
/-! PROOFS. The statements about the accumulator group (45_accumulator.md). The eight instructions share one shape,
which the flag engine's function of each fills in; all but DAA keep S, Z and PV. -/

namespace Sys2Proof.Machine

/-! ### The shape of the group -/

/-- The flag-engine function of an accumulator instruction on A and the flags (R200-R207): `runForm_acc`. -/
def AccOp.apply (a : AccOp) (v : Byte) (fl : Flags) : AluOut :=
  match a with
  | .rlca => rlc8 v fl
  | .rrca => rrc8 v fl
  | .rla => rl8 v fl
  | .rra => rr8 v fl
  | .daa => Sys2Proof.Machine.daa v fl
  | .cpl => cpl8 v fl
  | .scf => scf8 v fl
  | .ccf => ccf8 v fl

theorem runForm_acc (op : Byte) (a : AccOp) (s : State) :
    runForm op (.acc a) s = accumulate op (a.apply s.a s.flags) s := by
  cases a <;> rfl

section
variable {i : Instr} {a : AccOp} {s : State}

/-- An accumulator instruction always completes, writes A and F as its flag-engine function answers, and no more. -/
theorem exec_acc (h : formOf i = .acc a) :
    ∃ t, exec i s = .next t ∧ OnlyAF (0b00#2 ++ a.code ++ 0b111#3) s t ∧ t.a = (a.apply s.a s.flags).value ∧
      t.f = (a.apply s.a s.flags).flags.toByte := by
  have hexec : exec i s = runForm (0b00#2 ++ a.code ++ 0b111#3) (.acc a) s := exec_of_form h s
  rw [hexec, runForm_acc]
  exact ⟨_, rfl, ⟨rfl, fun _ => rfl⟩, rfl, rfl⟩

/-- The shape all but DAA share: A becomes `w`, F5 and F3 come from it, and S, Z and PV are kept. -/
theorem exec_acc_keeps_s_z_pv {w : Byte} {half n c : Bool} (h : formOf i = .acc a)
    (hout : a.apply s.a s.flags = ⟨w, { s.flags.f35 w with h := half, n := n, c := c }⟩) :
    ∃ t, exec i s = .next t ∧ OnlyAF (0b00#2 ++ a.code ++ 0b111#3) s t ∧ t.a = w ∧
      FlagsAre t.f (s.f.getLsbD 7) (s.f.getLsbD 6) (t.a.getLsbD 5) half (t.a.getLsbD 3) (s.f.getLsbD 2) n c := by
  obtain ⟨t, hexec, honly, ha, hf⟩ := exec_acc (s := s) h
  rw [hout] at ha hf
  refine ⟨t, hexec, honly, ha, ?_⟩
  rw [ha, hf]
  exact flagsAre_toByte.2 ⟨rfl, rfl, rfl, rfl, rfl, rfl, rfl, rfl⟩

end

/-! ### One bit to the left, one bit to the right (R112-R115) -/

section
variable (v : Byte) (c : Bool)

/-- The byte the left rotates answer: the bit that enters is bit 0, the others have moved up. -/
theorem rotate_left_eq_shiftConcat : BitVec.ofNat 8 (2 * v.toNat % 256 + c.toNat) = v.shiftConcat c := by
  have hc := c.toNat_le
  refine BitVec.eq_of_toNat_eq ?_
  rw [BitVec.toNat_ofNat, BitVec.toNat_shiftConcat, Nat.shiftLeft_eq]
  omega

/-- The byte the right rotates answer: the bit that enters is above bit 7, and all nine have moved down. -/
theorem rotate_right_eq_extractLsb'_cons :
    BitVec.ofNat 8 (v.toNat / 2 + 128 * c.toNat) = (BitVec.cons c v).extractLsb' 1 8 := by
  refine BitVec.eq_of_toNat_eq ?_
  rw [BitVec.toNat_ofNat, BitVec.extractLsb'_toNat, BitVec.toNat_cons', Nat.shiftLeft_eq, Nat.shiftRight_eq_div_pow]
  omega

theorem shiftConcat_getLsbD_zero : (v.shiftConcat c).getLsbD 0 = c := by simp

theorem shiftConcat_getLsbD_succ {k : Nat} (hk : k < 7) : (v.shiftConcat c).getLsbD (k + 1) = v.getLsbD k := by
  rw [BitVec.getLsbD_shiftConcat, decide_eq_true (by omega : k + 1 < 8), Bool.true_and, if_neg (Nat.succ_ne_zero k),
    Nat.add_sub_cancel]

theorem extractLsb'_cons_getLsbD_seven : ((BitVec.cons c v).extractLsb' 1 8).getLsbD 7 = c := by
  rw [BitVec.getLsbD_extractLsb', BitVec.getLsbD_cons]
  rfl

theorem extractLsb'_cons_getLsbD {k : Nat} (hk : k < 7) :
    ((BitVec.cons c v).extractLsb' 1 8).getLsbD k = v.getLsbD (k + 1) := by
  rw [BitVec.getLsbD_extractLsb', decide_eq_true (by omega : k < 8), Bool.true_and, BitVec.getLsbD_cons,
    if_neg (by omega), Nat.add_comm]

end

section
variable (v : Byte) (fl : Flags)

theorem rlc8_eq : rlc8 v fl = rotateOut (v.shiftConcat (v.getLsbD 7)) (v.getLsbD 7) fl := by
  rw [rlc8, rotate_left_eq_shiftConcat]

theorem rrc8_eq : rrc8 v fl = rotateOut ((BitVec.cons (v.getLsbD 0) v).extractLsb' 1 8) (v.getLsbD 0) fl := by
  rw [rrc8, rotate_right_eq_extractLsb'_cons]

theorem rl8_eq : rl8 v fl = rotateOut (v.shiftConcat fl.c) (v.getLsbD 7) fl := by
  rw [rl8, rotate_left_eq_shiftConcat]

theorem rr8_eq : rr8 v fl = rotateOut ((BitVec.cons fl.c v).extractLsb' 1 8) (v.getLsbD 0) fl := by
  rw [rr8, rotate_right_eq_extractLsb'_cons]

end

/-! ### The rotates (R200-R203) -/

/-- Settles O35: the bit that leaves at one end of A enters at the other. -/
theorem rlcaAndRrcaRotateA : Obligations.RlcaAndRrcaRotateA := by
  refine fun i s => ⟨fun h => ⟨encode_of_form h, costIs_of_default rfl, ?_⟩,
    fun h => ⟨encode_of_form h, costIs_of_default rfl, ?_⟩⟩
  · obtain ⟨t, hexec, honly, ha, hflags⟩ := exec_acc_keeps_s_z_pv h (rlc8_eq s.a s.flags)
    refine ⟨t, hexec, honly, fun k hk => ?_, hflags⟩
    rw [ha]
    rcases Nat.lt_succ_iff_lt_or_eq.1 hk with hlt | rfl
    · rw [Nat.mod_eq_of_lt (by omega), shiftConcat_getLsbD_succ _ _ hlt]
    · exact shiftConcat_getLsbD_zero _ _
  · obtain ⟨t, hexec, honly, ha, hflags⟩ := exec_acc_keeps_s_z_pv h (rrc8_eq s.a s.flags)
    refine ⟨t, hexec, honly, fun k hk => ?_, hflags⟩
    rw [ha]
    rcases Nat.lt_succ_iff_lt_or_eq.1 hk with hlt | rfl
    · rw [Nat.mod_eq_of_lt (by omega), extractLsb'_cons_getLsbD _ _ hlt]
    · exact extractLsb'_cons_getLsbD_seven _ _

/-- Settles O36: C enters at one end of A, and the bit that leaves at the other goes to C. -/
theorem rlaAndRraRotateAThroughC : Obligations.RlaAndRraRotateAThroughC := by
  refine fun i s => ⟨fun h => ⟨encode_of_form h, costIs_of_default rfl, ?_⟩,
    fun h => ⟨encode_of_form h, costIs_of_default rfl, ?_⟩⟩
  · obtain ⟨t, hexec, honly, ha, hflags⟩ := exec_acc_keeps_s_z_pv h (rl8_eq s.a s.flags)
    exact ⟨t, hexec, honly, ha ▸ shiftConcat_getLsbD_zero _ _, fun k hk => ha ▸ shiftConcat_getLsbD_succ _ _ hk, hflags⟩
  · obtain ⟨t, hexec, honly, ha, hflags⟩ := exec_acc_keeps_s_z_pv h (rr8_eq s.a s.flags)
    exact ⟨t, hexec, honly, ha ▸ extractLsb'_cons_getLsbD_seven _ _, fun k hk => ha ▸ extractLsb'_cons_getLsbD _ _ hk,
      hflags⟩

/-! ### DAA (R116, R204) -/

/-- The correction DAA adds or subtracts (R116): `daa_value`. -/
def daaCorrection (a : Byte) (fl : Flags) : Nat :=
  (if fl.h = true ∨ a.toNat % 16 > 9 then 0x06 else 0) + (if fl.c = true ∨ a.toNat > 0x99 then 0x60 else 0)

theorem daa_value (a : Byte) (fl : Flags) :
    (daa a fl).value =
      if fl.n then BitVec.ofInt 8 ((a.toNat : Int) - daaCorrection a fl)
      else BitVec.ofNat 8 (a.toNat + daaCorrection a fl) := by
  simp [daa, daaCorrection]

theorem daaCorrection_cast (a : Byte) (fl : Flags) :
    (daaCorrection a fl : Int) =
      (if fl.h = true ∨ a.toNat % 16 > 9 then 0x06 else 0) + (if fl.c = true ∨ a.toNat > 0x99 then 0x60 else 0) := by
  simp [daaCorrection]

/-- DAA corrects A mod 256, downwards after a subtraction and upwards after an addition. -/
theorem daa_value_toNat (a : Byte) (fl : Flags) :
    ((daa a fl).value.toNat : Int) =
      (if fl.n then (a.toNat : Int) - daaCorrection a fl else a.toNat + daaCorrection a fl) % 256 := by
  rw [daa_value]
  cases fl.n with
  | true =>
    have hsub : (BitVec.ofInt 8 ((a.toNat : Int) - daaCorrection a fl)).toNat =
        (((a.toNat : Int) - daaCorrection a fl) % 256).toNat := BitVec.toNat_ofInt _
    simp only [if_true]
    omega
  | false => simp

/-- The flags of DAA (R116), N preserved. -/
theorem daa_flagsAre (a f : Byte) :
    let w := (daa a (Flags.ofByte f)).value
    FlagsAre (daa a (Flags.ofByte f)).flags.toByte (w.getLsbD 7) (decide (w = 0)) (w.getLsbD 5)
      (if f.getLsbD 1 then f.getLsbD 4 && decide (a.toNat % 16 < 6) else decide (a.toNat % 16 > 9)) (w.getLsbD 3)
      (decide (((List.range 8).filter fun k => w.getLsbD k).length % 2 = 0)) (f.getLsbD 1)
      (f.getLsbD 0 || decide (a.toNat > 0x99)) :=
  flagsAre_toByte.2 ⟨rfl, rfl, rfl, rfl, rfl, parity_eq_count _, rfl, rfl⟩

/-- Settles O37: A takes the value of `daa` and F its flags; the rest is the epilogue's. -/
theorem daaCorrectsA : Obligations.DaaCorrectsA := by
  intro i s h
  obtain ⟨t, hexec, honly, ha, hf⟩ := exec_acc (s := s) h
  refine ⟨encode_of_form h, costIs_of_default rfl, t, hexec, honly, ?_, ?_⟩
  · have hvalue := daa_value_toNat s.a s.flags
    rw [daaCorrection_cast] at hvalue
    rw [ha]
    exact hvalue
  · rw [ha, hf]
    exact daa_flagsAre s.a s.f

/-! ### CPL, SCF and CCF (R205-R207) -/

theorem cpl8_value_getLsbD (v : Byte) (fl : Flags) {k : Nat} (hk : k < 8) :
    (cpl8 v fl).value.getLsbD k = !v.getLsbD k := by
  have hnot : (cpl8 v fl).value = ~~~v := BitVec.xor_allOnes
  simp [hnot, hk]

/-- Settles O38: each keeps S, Z and PV, and only CPL writes another A. -/
theorem cplScfCcfSetTheirFlags : Obligations.CplScfCcfSetTheirFlags := by
  refine fun i s => ⟨fun h => ⟨encode_of_form h, costIs_of_default rfl, ?_⟩,
    fun h => ⟨encode_of_form h, costIs_of_default rfl, ?_⟩, fun h => ⟨encode_of_form h, costIs_of_default rfl, ?_⟩⟩
  · obtain ⟨t, hexec, honly, ha, hflags⟩ := exec_acc_keeps_s_z_pv (w := (cpl8 s.a s.flags).value) h rfl
    exact ⟨t, hexec, honly, fun k hk => ha ▸ cpl8_value_getLsbD s.a s.flags hk, hflags⟩
  · obtain ⟨t, hexec, honly, ha, hflags⟩ := exec_acc_keeps_s_z_pv (w := s.a) h rfl
    exact ⟨t, hexec, honly, ha, ha ▸ hflags⟩
  · obtain ⟨t, hexec, honly, ha, hflags⟩ := exec_acc_keeps_s_z_pv (w := s.a) h rfl
    exact ⟨t, hexec, honly, ha, ha ▸ hflags⟩

end Sys2Proof.Machine
end

section
/-! PROOFS. The statements about NOP, the relative jumps and HALT (46_control.md). A branch has two outcomes, each one
equation of its shared operation, and both target PC by `relativeTarget` (R211). -/

namespace Sys2Proof.Machine

/-- The relative target is PC plus the displacement, mod 65536 in both directions (R211). -/
theorem relativeTarget_toNat (pc : Word) (d : Int) : ((relativeTarget pc d).toNat : Int) = (pc.toNat + d) % 65536 := by
  have hadd : (relativeTarget pc d).toNat = (pc.toNat + (d % 65536).toNat) % 65536 := by
    simp [relativeTarget]
  omega

/-! ### NOP (R210) -/

/-- Settles O15: the meaning of NOP is the epilogue. -/
theorem nopRunsTheEpilogueAlone : Obligations.NopRunsTheEpilogueAlone := fun _ s h =>
  ⟨encode_of_form h, costIs_of_default rfl, _, exec_of_form h s, rfl, fun _ => rfl⟩

/-! ### DJNZ (R212) -/

section
variable {s : State} (op : Byte) (d : Int)

theorem decrementJump_taken (hb : s.b ≠ 1) :
    decrementJump op d s =
      .next (epilogue op true ((s.setReg8 .b (s.b - 1)).setPc (relativeTarget s.pc d))) :=
  if_pos fun hzero => hb (sub_eq_zero.1 hzero)

theorem decrementJump_not_taken (hb : s.b = 1) :
    decrementJump op d s = .next (epilogue op false (s.setReg8 .b (s.b - 1))) :=
  if_neg fun hne => hne (sub_eq_zero.2 hb)

end

/-- Settles O39: the new B is 0 exactly where B was 1. -/
theorem djnzDecrementsBAndBranches : Obligations.DjnzDecrementsBAndBranches := by
  intro i d s h
  refine ⟨encode_of_form h, costIs_of_default rfl, costIs_of_default rfl, ?_⟩
  by_cases hb : s.b = 1
  · exact ⟨_, (exec_of_form h s).trans (decrementJump_not_taken _ d hb), byte_sub_one_toNat s.b, fun _ => rfl,
      fun hne => absurd hb hne, fun _ => rfl⟩
  · exact ⟨_, (exec_of_form h s).trans (decrementJump_taken _ d hb), byte_sub_one_toNat s.b, fun _ => rfl,
      fun _ => ⟨relativeTarget_toNat s.pc d, rfl⟩, fun heq => absurd heq hb⟩

/-! ### JR (R213) -/

/-- Settles O40: `relativeTarget_toNat`. -/
theorem jrJumpsRelative : Obligations.JrJumpsRelative := fun _ d s h =>
  ⟨encode_of_form h, costIs_of_default rfl, _, exec_of_form h s, relativeTarget_toNat s.pc d, fun _ => rfl, rfl⟩

/-! ### JR cc (R214) -/

section
variable {s : State} (op : Byte) {cc : Cond} (d : Int)

theorem jumpConditional_taken (hcc : s.cond cc = true) :
    jumpConditional op cc d s = .next (epilogue op true (s.setPc (relativeTarget s.pc d))) := if_pos hcc

theorem jumpConditional_not_taken (hcc : s.cond cc = false) :
    jumpConditional op cc d s = .next (epilogue op false s) := if_neg (Bool.eq_false_iff.1 hcc)

end

/-- Each condition is a test of one bit of F (R29). -/
theorem cond_eq_test_of_bit (s : State) (cc : Cond) :
    s.cond cc = match cc with
      | .nz => s.f.getLsbD 6 == false
      | .z => s.f.getLsbD 6 == true
      | .nc => s.f.getLsbD 0 == false
      | .c => s.f.getLsbD 0 == true := by
  cases cc
  case nz | nc => exact (beq_false _).symm
  case z | c => exact (beq_true _).symm

/-- Settles O41: the two outcomes of the branch, by the value of the condition. -/
theorem jrCcJumpsWhenItsConditionHolds : Obligations.JrCcJumpsWhenItsConditionHolds := by
  intro i cc d s h op holds
  have hholds : s.cond cc = holds := cond_eq_test_of_bit s cc
  refine ⟨encode_of_form h, costIs_of_default (by cases cc <;> rfl), costIs_of_default (by cases cc <;> rfl), ?_⟩
  rw [← hholds]
  cases hcc : s.cond cc with
  | true =>
    exact ⟨_, (exec_of_form h s).trans (jumpConditional_taken _ d hcc), fun _ => rfl,
      fun _ => ⟨relativeTarget_toNat s.pc d, rfl⟩, nofun⟩
  | false =>
    exact ⟨_, (exec_of_form h s).trans (jumpConditional_not_taken _ d hcc), fun _ => rfl, nofun, fun _ => rfl⟩

/-! ### HALT (R215) -/

section
variable {s : State} (op : Byte)

theorem suspend_of_haltSuspends (hp : s.params.haltSuspends = true) :
    suspend op s = .next (epilogue op false { s with halted := true }) := by rw [suspend, if_pos hp]

theorem suspend_of_not_haltSuspends (hp : s.params.haltSuspends = false) :
    suspend op s = .next (epilogue op false s) := by rw [suspend, if_neg (Bool.eq_false_iff.1 hp)]

end

/-- Settles O42: where HALT suspends, the state it leaves is halted, and `haltedIsFinal` speaks of every step after. -/
theorem haltSuspendsTheCore : Obligations.HaltSuspendsTheCore := by
  intro i s h
  refine ⟨encode_of_form h, costIs_of_default rfl, ?_⟩
  cases hp : s.params.haltSuspends with
  | true =>
    exact ⟨_, (exec_of_form h s).trans (suspend_of_haltSuspends _ hp), fun _ => rfl,
      fun _ => ⟨rfl, rfl, fun n => (haltedIsFinal _ n rfl).2⟩, nofun⟩
  | false =>
    exact ⟨_, (exec_of_form h s).trans (suspend_of_not_haltSuspends _ hp), fun _ => rfl, nofun, fun _ => rfl⟩

end Sys2Proof.Machine
end

section
/-! PROOFS. The statement about the display decoder (47_decoder.md). It answers the bytes that exist from the address
on, and its text alone depends on whether they are all there. -/

namespace Sys2Proof.Machine

/-! ### The bytes answered (R223-R225) -/

/-- As many bytes as were asked for, cut at the end of memory: the address never wraps (R226). -/
theorem displayBytes_length (m : Memory) (addr n : Nat) : (displayBytes m addr n).length = min n (m.size - addr) := by
  induction n generalizing addr with
  | zero => simp [displayBytes]
  | succ n ih =>
    cases hread : m.read addr with
    | none =>
      have hend : m.size ≤ addr := Memory.read_eq_none.1 hread
      simp [displayBytes, hread, hend]
    | some v =>
      have hin : ¬ m.size ≤ addr := fun hend => by simp [Memory.read_eq_none.2 hend] at hread
      simp only [displayBytes, hread, List.length_cons, ih]
      omega

theorem read_of_displayBytes_getElem? {m : Memory} {addr n k : Nat} {v : Byte}
    (h : (displayBytes m addr n)[k]? = some v) : m.read (addr + k) = some v := by
  induction n generalizing addr k with
  | zero => simp [displayBytes] at h
  | succ n ih =>
    cases hread : m.read addr with
    | none => simp [displayBytes, hread] at h
    | some w =>
      rw [displayBytes, hread] at h
      cases k with
      | zero => exact hread.trans h
      | succ k =>
        have hrest : m.read (addr + 1 + k) = some v := ih h
        rwa [Nat.add_right_comm, Nat.add_assoc] at hrest

/-! ### The two answers of the decoder (R220) -/

section
variable (p : Params) {m : Memory} {addr : Word}

/-- At or past the end there is no opcode (R225). -/
theorem display_of_outside (h : m.size ≤ addr.toNat) :
    display p m addr = { text := p.unrecText, bytes := [], length := 1 } := by
  rw [display, Memory.read_eq_none.2 h]

/-- With an opcode, its length and the bytes that exist; the text asks whether they all do (R223, R224). -/
theorem display_of_opcode {op : Byte} (h : m.read addr.toNat = some op) :
    display p m addr =
      { text := if addr.toNat + displayLength op > m.size then p.unrecText
          else displayText (displayBytes m addr.toNat (displayLength op))
        bytes := displayBytes m addr.toNat (displayLength op)
        length := displayLength op } := by
  rw [display, h]

end

/-- Settles O58: the two answers of `display`, with the length and the content of `displayBytes`. -/
theorem displayDoesNotReadPastTheEnd : Obligations.DisplayDoesNotReadPastTheEnd := by
  intro p m addr
  refine ⟨display_of_outside p, fun op hop => ?_⟩
  have hlen := displayBytes_length m addr.toNat (displayLength op)
  rw [display_of_opcode p hop]
  refine ⟨rfl, fun hpast => ⟨if_pos hpast, ?_⟩, fun hfits => ?_, fun k v => read_of_displayBytes_getElem?⟩
  · exact hlen.trans (min_eq_right (by omega))
  · exact hlen.trans (min_eq_left (by omega))

end Sys2Proof.Machine
end

section
/-! PROOFS. The statements about the exceptions and the counters (60_exceptions.md): which steps are refused, and that R
and T advance with every executed instruction and are read by none.

The proofs run a step twice, from a state and from the same state with other values in R and T, and follow the two runs
side by side: `Alike` relates their results, and says as well that neither is refused. -/

namespace Sys2Proof.Machine

/-! ### The opcode of the fetched instruction (R131) -/

theorem opcodeOf_formOf_of_encode {i : Instr} {op : Byte} {operands : List Byte} (h : encode i = op :: operands) :
    opcodeOf (formOf i) = op :=
  List.head_eq_of_cons_eq ((encode_eq_form i).symm.trans h)

/-- The instruction fetched at PC is one of the opcode there: in each of the four formats (R70). -/
theorem opcodeOf_fetched {s u : State} {i : Instr} (h : fetchInstr s = .next (i, u)) :
    s.byteAt s.pc.toNat = some (opcodeOf (formOf i)) := by
  obtain ⟨⟨op, s1⟩, hop, h⟩ := andThen_eq_next.1 h
  obtain ⟨hbyte, -⟩ := fetch8_eq_next.1 hop
  suffices hi : ∃ operands, encode i = op :: operands by
    obtain ⟨operands, henc⟩ := hi
    rw [opcodeOf_formOf_of_encode henc]
    exact hbyte
  obtain ⟨j, hrow, henc, -⟩ | ⟨mk, hrow, henc⟩ | ⟨mk, hrow, henc⟩ | ⟨mk, hrow, henc⟩ := row_spec op <;>
    simp only [hrow] at h
  · cases h
    exact ⟨_, henc⟩
  all_goals
    obtain ⟨⟨operand, s2⟩, -, h⟩ := andThen_eq_next.1 h
    cases h
    exact ⟨_, (henc _).1⟩

/-- A word read is never refused (R53). -/
@[simp] theorem read16_ne_refused (s : State) (addr : Word) (e : Refusal) : read16 s addr ≠ .refused e := by
  simp [read16, andThen_eq_refused]

/-! ### Two runs that end alike -/

/-- Two results end alike when both are the same fault, or both are values related by `R`; none is a refusal. -/
inductive Alike {α : Type} (R : α → α → Prop) : Result α → Result α → Prop where
  | fault (r : Fault) : Alike R (.fault r) (.fault r)
  | next {v w : α} (h : R v w) : Alike R (.next v) (.next w)

theorem alike_andThen {α β : Type} {R : α → α → Prop} {R' : β → β → Prop} {x y : Result α} {k l : α → Result β}
    (hxy : Alike R x y) (hkl : ∀ v w, x = .next v → R v w → Alike R' (k v) (l w)) :
    Alike R' (andThen x k) (andThen y l) := by
  cases hxy with
  | fault r => exact .fault r
  | next h => exact hkl _ _ rfl h

/-- After an access that answers both runs the same and is never refused. -/
theorem alike_andThen_same {α β : Type} {R : β → β → Prop} {x : Result α} {k l : α → Result β}
    (hx : ∀ r, x ≠ .refused r) (hkl : ∀ v, Alike R (k v) (l v)) : Alike R (andThen x k) (andThen x l) := by
  cases x with
  | next v => exact hkl v
  | fault r => exact .fault r
  | refused r => exact absurd rfl (hx r)

/-- A branch that both runs take, or that neither does. -/
theorem alike_ite {α : Type} {R : α → α → Prop} {c : Prop} [Decidable c] {x y x' y' : Result α}
    (hpos : Alike R x y) (hneg : Alike R x' y') : Alike R (if c then x else x') (if c then y else y') := by
  split
  · exact hpos
  · exact hneg

/-! ### Two runs whose states differ in R and T alone -/

/-- `s` with other values in R and T. -/
def State.withCounters (s : State) (r : BitVec 7) (n : Nat) : State := { s with r := r, t := n }

section
variable (s : State) (r : BitVec 7) (n : Nat)

@[simp] theorem pair_withCounters (p : Pair) : (s.withCounters r n).pair p = s.pair p := by cases p <;> rfl

@[simp] theorem cond_withCounters (cc : Cond) : (s.withCounters r n).cond cc = s.cond cc := by cases cc <;> rfl

@[simp] theorem readOperand_withCounters (o : Operand8) : readOperand o (s.withCounters r n) = readOperand o s := by
  cases o with
  | reg q => cases q <;> rfl
  | memHl => rfl

end

/-- Two runs from `s`, the second with `r` and `n` in R and T, before either counter is written: they are at the same
state but for those two values. -/
structure BeforeEpilogue (s : State) (r : BitVec 7) (n : Nat) (u w : State) : Prop where
  r_eq : u.r = s.r
  t_eq : u.t = s.t
  params_eq : u.params = s.params
  twin : w = u.withCounters r n

/-- Two runs from `s`, the second with `r` and `n` in R and T, after R grew by one and T by `cost`. -/
structure AfterEpilogue (s : State) (r : BitVec 7) (n cost : Nat) (u w : State) : Prop where
  r_eq : u.r = s.r + 1
  t_eq : u.t = s.t + cost
  twin : w = u.withCounters (r + 1) (n + cost)

/-- Two runs from `s`, the second with `r` and `n` in R and T, of an opcode 0x00-0xBF that both have completed, with one
branch outcome. -/
def AfterOpcode (s : State) (r : BitVec 7) (n : Nat) (op : Byte) (u w : State) : Prop :=
  ∃ taken, AfterEpilogue s r n (s.params.tstate op taken) u w

/-- Two runs from `s`, the second with `r` and `n` in R and T, that have fetched the same. -/
def AfterFetch {α : Type} (s : State) (r : BitVec 7) (n : Nat) (x y : α × State) : Prop :=
  x.1 = y.1 ∧ BeforeEpilogue s r n x.2 y.2

/-! ### The shared operations, run twice -/

section
variable {s : State} {r : BitVec 7} {n : Nat} {u w : State}

theorem beforeEpilogue_setReg8 (h : BeforeEpilogue s r n u w) (q : Reg8) (v : Byte) :
    BeforeEpilogue s r n (u.setReg8 q v) (w.setReg8 q v) := by
  obtain ⟨hr, ht, hparams, rfl⟩ := h
  cases q <;> exact ⟨hr, ht, hparams, rfl⟩

theorem beforeEpilogue_setPair (h : BeforeEpilogue s r n u w) (p : Pair) (v : Word) :
    BeforeEpilogue s r n (u.setPair p v) (w.setPair p v) := by
  obtain ⟨hr, ht, hparams, rfl⟩ := h
  cases p <;> exact ⟨hr, ht, hparams, rfl⟩

theorem beforeEpilogue_withFlags (h : BeforeEpilogue s r n u w) (x : Flags) :
    BeforeEpilogue s r n (u.withFlags x) (w.withFlags x) := by
  obtain ⟨hr, ht, hparams, rfl⟩ := h
  exact ⟨hr, ht, hparams, rfl⟩

theorem beforeEpilogue_setPc (h : BeforeEpilogue s r n u w) (v : Word) :
    BeforeEpilogue s r n (u.setPc v) (w.setPc v) := by
  obtain ⟨hr, ht, hparams, rfl⟩ := h
  exact ⟨hr, ht, hparams, rfl⟩

theorem memWrite_alike (h : BeforeEpilogue s r n u w) (addr : Word) (v : Byte) :
    Alike (BeforeEpilogue s r n) (memWrite u addr v) (memWrite w addr v) := by
  obtain ⟨hr, ht, hparams, rfl⟩ := h
  rcases lt_or_ge addr.toNat u.mem.size with hin | hout
  · rw [memWrite_inside v hin, memWrite_inside (s := u.withCounters r n) v hin]
    exact .next ⟨hr, ht, hparams, rfl⟩
  · rw [memWrite_outside v hout, memWrite_outside (s := u.withCounters r n) v hout]
    exact .fault _

theorem write16_alike (h : BeforeEpilogue s r n u w) (addr v : Word) :
    Alike (BeforeEpilogue s r n) (write16 u addr v) (write16 w addr v) :=
  alike_andThen (memWrite_alike h addr (loByte v)) fun _ _ _ h1 => memWrite_alike h1 (addr + 1) (hiByte v)

theorem writeOperand_alike (h : BeforeEpilogue s r n u w) (o : Operand8) (v : Byte) :
    Alike (BeforeEpilogue s r n) (writeOperand o v u) (writeOperand o v w) := by
  cases o with
  | reg q => exact .next (beforeEpilogue_setReg8 h q v)
  | memHl =>
    obtain rfl := h.twin
    exact memWrite_alike h u.hl v

/-- Two byte fetches answer the same byte (R132). -/
theorem fetch8_alike (h : BeforeEpilogue s r n u w) : Alike (AfterFetch s r n) (fetch8 u) (fetch8 w) := by
  obtain ⟨hr, ht, hparams, rfl⟩ := h
  cases hbyte : u.mem.read u.pc.toNat with
  | none =>
    rw [fetch8_of_none hbyte, fetch8_of_none (s := u.withCounters r n) hbyte]
    exact .fault _
  | some v =>
    rw [fetch8_of_some hbyte, fetch8_of_some (s := u.withCounters r n) hbyte]
    exact .next ⟨rfl, hr, ht, hparams, rfl⟩

theorem fetch16_alike (h : BeforeEpilogue s r n u w) : Alike (AfterFetch s r n) (fetch16 u) (fetch16 w) := by
  refine alike_andThen (fetch8_alike h) fun ⟨lo, u1⟩ ⟨lo', w1⟩ _ ⟨hlo, h1⟩ => ?_
  refine alike_andThen (fetch8_alike h1) fun ⟨hi, u2⟩ ⟨hi', w2⟩ _ ⟨hhi, h2⟩ => ?_
  exact .next ⟨congrArg₂ cat hhi hlo, h2⟩

/-- Two instruction fetches answer the same instruction: in each of the four formats (R70). -/
theorem fetchInstr_alike (h : BeforeEpilogue s r n u w) : Alike (AfterFetch s r n) (fetchInstr u) (fetchInstr w) := by
  refine alike_andThen (fetch8_alike h) fun ⟨op, u1⟩ ⟨op', w1⟩ _ ⟨hop, h1⟩ => ?_
  obtain rfl : op = op' := hop
  cases row op with
  | op i => exact .next ⟨rfl, h1⟩
  | opN mk | opD mk => exact alike_andThen (fetch8_alike h1) fun _ _ _ ⟨hv, h2⟩ => .next ⟨by rw [hv], h2⟩
  | opNn mk => exact alike_andThen (fetch16_alike h1) fun _ _ _ ⟨hv, h2⟩ => .next ⟨by rw [hv], h2⟩

/-! ### Every form, and every step of an opcode 0x00-0xBF -/

/-- An instruction's last act (R137): two epilogues of one opcode with one branch outcome. -/
theorem epilogue_alike (op : Byte) (taken : Bool) (h : BeforeEpilogue s r n u w) :
    Alike (AfterOpcode s r n op) (.next (epilogue op taken u)) (.next (epilogue op taken w)) := by
  obtain ⟨hr, ht, hparams, rfl⟩ := h
  refine .next ⟨taken, by rw [epilogue_r, hr], by rw [epilogue_t, ht, hparams], ?_⟩
  rw [← hparams]
  rfl

/-- The shared operation of every form but that of the opcodes 0xC0-0xFF: the two runs make the same accesses and take
the same branch, and end in the same fault or in the epilogue. -/
theorem runForm_alike (op : Byte) {f : Form} (hf : ∀ op', f ≠ .unimpl op') (h : BeforeEpilogue s r n u w) :
    Alike (AfterOpcode s r n op) (runForm op f u) (runForm op f w) := by
  obtain rfl := h.twin
  cases f with
  | nop => exact epilogue_alike op false h
  | exAf => exact epilogue_alike op false ⟨h.r_eq, h.t_eq, h.params_eq, rfl⟩
  | djnz d =>
    have hb := beforeEpilogue_setReg8 h .b (u.b - 1)
    exact alike_ite (epilogue_alike op true (beforeEpilogue_setPc hb _)) (epilogue_alike op false hb)
  | jr d => exact epilogue_alike op false (beforeEpilogue_setPc h _)
  | jrCc cc d =>
    simp only [runForm, jumpConditional, cond_withCounters]
    exact alike_ite (epilogue_alike op true (beforeEpilogue_setPc h _)) (epilogue_alike op false h)
  | ldPairNn p nn => exact epilogue_alike op false (beforeEpilogue_setPair h p nn)
  | addHl p =>
    simp only [runForm, addHl, pair_withCounters]
    exact epilogue_alike op false (beforeEpilogue_withFlags (beforeEpilogue_setPair h .hl _) _)
  | ldMemBcA | ldMemDeA | ldMemNnA nn =>
    exact alike_andThen (memWrite_alike h _ _) fun _ _ _ h1 => epilogue_alike op false h1
  | ldMemNnHl nn => exact alike_andThen (write16_alike h _ _) fun _ _ _ h1 => epilogue_alike op false h1
  | ldAMemBc | ldAMemDe | ldAMemNn nn =>
    exact alike_andThen_same (memRead_ne_refused u _) fun v => epilogue_alike op false (beforeEpilogue_setReg8 h .a v)
  | ldHlMemNn nn =>
    exact alike_andThen_same (read16_ne_refused u nn) fun v => epilogue_alike op false (beforeEpilogue_setPair h .hl v)
  | incPair p | decPair p =>
    simp only [runForm, incPair, decPair, pair_withCounters]
    exact epilogue_alike op false (beforeEpilogue_setPair h p _)
  | inc o | dec o =>
    simp only [runForm, incOperand, decOperand, readOperand_withCounters]
    refine alike_andThen_same (readOperand_ne_refused o u) fun v => ?_
    refine alike_andThen (writeOperand_alike h o _) fun u1 w1 _ h1 => ?_
    obtain rfl := h1.twin
    exact epilogue_alike op false (beforeEpilogue_withFlags h1 _)
  | ldN dst v => exact alike_andThen (writeOperand_alike h dst v) fun _ _ _ h1 => epilogue_alike op false h1
  | acc a => cases a <;> exact epilogue_alike op false (beforeEpilogue_withFlags (beforeEpilogue_setReg8 h .a _) _)
  | ld8 dst src =>
    simp only [runForm, move8, readOperand_withCounters]
    refine alike_andThen_same (readOperand_ne_refused src u) fun v => ?_
    exact alike_andThen (writeOperand_alike h dst v) fun _ _ _ h1 => epilogue_alike op false h1
  | halt =>
    cases hp : u.params.haltSuspends with
    | false =>
      rw [runForm, runForm, suspend_of_not_haltSuspends op hp,
        suspend_of_not_haltSuspends (s := u.withCounters r n) op hp]
      exact epilogue_alike op false h
    | true =>
      rw [runForm, runForm, suspend_of_haltSuspends op hp, suspend_of_haltSuspends (s := u.withCounters r n) op hp]
      exact epilogue_alike op false ⟨h.r_eq, h.t_eq, h.params_eq, rfl⟩
  | alu f o =>
    simp only [runForm, alu, readOperand_withCounters]
    refine alike_andThen_same (readOperand_ne_refused o u) fun v => ?_
    exact epilogue_alike op false (beforeEpilogue_withFlags (beforeEpilogue_setReg8 h .a _) _)
  | cp o =>
    simp only [runForm, compare, readOperand_withCounters]
    exact alike_andThen_same (readOperand_ne_refused o u) fun v => epilogue_alike op false (beforeEpilogue_withFlags h _)
  | unimpl op' => exact absurd rfl (hf op')

end

/-- The steps of two running cores that differ in R and T alone, at an opcode 0x00-0xBF. -/
theorem step_alike {s : State} {op : Byte} (r : BitVec 7) (n : Nat) (hrun : s.halted = false)
    (hbyte : s.byteAt s.pc.toNat = some op) (hop : op.toNat < 0xC0) :
    Alike (AfterOpcode s r n op) (step s) (step (s.withCounters r n)) := by
  rw [step_of_running hrun, step_of_running (s := s.withCounters r n) hrun]
  refine alike_andThen (fetchInstr_alike ⟨rfl, rfl, rfl, rfl⟩) fun ⟨i, u⟩ ⟨j, w⟩ hfetch ⟨hij, h⟩ => ?_
  obtain rfl : i = j := hij
  obtain rfl : opcodeOf (formOf i) = op := Option.some.inj ((opcodeOf_fetched hfetch).symm.trans hbyte)
  have hgroup : ∀ op', formOf i ≠ .unimpl op' := fun op' hform =>
    absurd (opcode_of_unimpl hform) (by rw [hform] at hop; exact hop.not_ge)
  rw [exec_eq_runForm, exec_eq_runForm]
  exact runForm_alike _ hgroup h

/-! ### Everything a step of a running core can answer (R130, R244) -/

/-- The four ways a step of the running core `s` ends, each with how it ends with `r` and `n` in R and T: a fault, the
epilogue of an opcode 0x00-0xBF, and for an opcode 0xC0-0xFF the refusal (R139) or the skip (R140). -/
inductive RunningStep (s : State) (r : BitVec 7) (n : Nat) : Result State → Result State → Prop where
  | fault (e : Fault) : RunningStep s r n (.fault e) (.fault e)
  | executed {op : Byte} (hbyte : s.byteAt s.pc.toNat = some op) (hop : op.toNat < 0xC0) (taken : Bool) {u w : State}
      (h : AfterEpilogue s r n (s.params.tstate op taken) u w) : RunningStep s r n (.next u) (.next w)
  | refused {op : Byte} (hbyte : s.byteAt s.pc.toNat = some op) (hop : 0xC0 ≤ op.toNat)
      (hmode : s.params.unimplMode = .refuse) :
      RunningStep s r n (.refused (.unimplemented op)) (.refused (.unimplemented op))
  | skipped {op : Byte} (hbyte : s.byteAt s.pc.toNat = some op) (hop : 0xC0 ≤ op.toNat)
      (hmode : s.params.unimplMode = .skip) {u w : State} (h : AfterEpilogue s r n s.params.unimplTStates u w) :
      RunningStep s r n (.next u) (.next w)

theorem runningStep_of_running {s : State} (r : BitVec 7) (n : Nat) (hrun : s.halted = false) :
    RunningStep s r n (step s) (step (s.withCounters r n)) := by
  obtain ⟨houtside, hungrouped⟩ := opcodesWithoutAGroupAreRefusedOrSkipped s hrun
  obtain ⟨houtside', hungrouped'⟩ := opcodesWithoutAGroupAreRefusedOrSkipped (s.withCounters r n) hrun
  cases hbyte : s.byteAt s.pc.toNat with
  | none =>
    rw [houtside hbyte, houtside' hbyte]
    exact .fault _
  | some op =>
    rcases lt_or_ge op.toNat 0xC0 with hop | hop
    · have hends := step_alike r n hrun hbyte hop
      generalize step s = x, step (s.withCounters r n) = y at hends ⊢
      cases hends with
      | fault e => exact .fault e
      | next h => exact h.elim fun taken h => .executed hbyte hop taken h
    · obtain ⟨hrefuse, hskip⟩ := hungrouped op hbyte hop
      obtain ⟨hrefuse', hskip'⟩ := hungrouped' op hbyte hop
      cases hmode : s.params.unimplMode with
      | refuse =>
        rw [(hrefuse hmode).1, (hrefuse' hmode).1]
        exact .refused hbyte hop hmode
      | skip =>
        rw [hskip hmode, hskip' hmode]
        exact .skipped hbyte hop hmode ⟨rfl, rfl, rfl⟩

/-! ### Refusals (R242) -/

/-- A halted core's step is not refused (R141), and a running core's in one case only. -/
theorem opcode_of_refused {s : State} {e : Refusal} (h : step s = .refused e) :
    s.halted = false ∧ s.params.unimplMode = .refuse ∧
      ∃ op, e = .unimplemented op ∧ 0xC0 ≤ op.toNat ∧ s.byteAt s.pc.toNat = some op := by
  cases hrun : s.halted with
  | true => cases (step_of_halted hrun).symm.trans h
  | false =>
    cases h ▸ runningStep_of_running s.r s.t hrun with
    | refused hbyte hop hmode => exact ⟨rfl, hmode, _, rfl, hop, hbyte⟩

/-- Settles O44: the one refusal among the ends of a step, and O13 for the converse. -/
theorem refusalsAreUnimplementedOpcodes : Obligations.RefusalsAreUnimplementedOpcodes := by
  refine fun s e => ⟨⟨opcode_of_refused, ?_⟩, observed_of_refused⟩
  rintro ⟨hrun, hmode, op, rfl, hop, hbyte⟩
  obtain ⟨-, hungrouped⟩ := opcodesWithoutAGroupAreRefusedOrSkipped s hrun
  obtain ⟨hrefuse, -⟩ := hungrouped op hbyte hop
  exact (hrefuse hmode).1

/-! ### The counters (R137, R138, R140, R249) -/

theorem r_toNat_of_afterEpilogue {s u w : State} {r : BitVec 7} {n cost : Nat} (h : AfterEpilogue s r n cost u w) :
    u.r.toNat = (s.r.toNat + 1) % 128 := by
  rw [h.r_eq]
  exact BitVec.toNat_add s.r 1

/-- The first half of O46, from the two ends of a step that answer a next state. -/
theorem counters_of_step {s t : State} (hrun : s.halted = false) (hstep : step s = .next t) :
    t.r.toNat = (s.r.toNat + 1) % 128 ∧
      ∃ op, s.byteAt s.pc.toNat = some op ∧
        (op.toNat < 0xC0 → ∃ taken, t.t = s.t + s.params.tstate op taken) ∧
        (0xC0 ≤ op.toNat → t.t = s.t + s.params.unimplTStates) := by
  cases hstep ▸ runningStep_of_running s.r s.t hrun with
  | executed hbyte hop taken h =>
    exact ⟨r_toNat_of_afterEpilogue h, _, hbyte, fun _ => ⟨taken, h.t_eq⟩, fun hge => absurd hop hge.not_gt⟩
  | skipped hbyte hop hmode h =>
    exact ⟨r_toNat_of_afterEpilogue h, _, hbyte, fun hlt => absurd hlt hop.not_gt, fun _ => h.t_eq⟩

/-- What the counters of the first run grew by, the counters of the second grow by. -/
theorem twin_of_afterEpilogue {s u w : State} {r : BitVec 7} {n cost : Nat} (h : AfterEpilogue s r n cost u w) :
    w = u.withCounters (r + (u.r - s.r)) (n + (u.t - s.t)) := by
  rw [h.twin, h.r_eq, h.t_eq, add_sub_cancel_left, Nat.add_sub_cancel_left]

/-- The second half of O46: the two steps end alike, and a halted core's is its own state. -/
theorem step_withCounters (s : State) (r : BitVec 7) (n : Nat) :
    step (s.withCounters r n) = mapNext (fun t => t.withCounters (r + (t.r - s.r)) (n + (t.t - s.t))) (step s) := by
  cases hrun : s.halted with
  | true =>
    rw [step_of_halted hrun, step_of_halted (s := s.withCounters r n) hrun, mapNext_next, sub_self, Nat.sub_self,
      add_zero, Nat.add_zero]
  | false =>
    have hends := runningStep_of_running r n hrun
    generalize step s = x, step (s.withCounters r n) = y at hends ⊢
    cases hends with
    | fault e | refused hbyte hop hmode => rfl
    | executed hbyte hop taken h | skipped hbyte hop hmode h =>
      rw [mapNext_next, twin_of_afterEpilogue h]

/-- Settles O46: each of the ways a step ends says how far the counters got, and is the way it ends with other values in
them. -/
theorem countersAdvanceAndAreNotRead : Obligations.CountersAdvanceAndAreNotRead :=
  ⟨fun _ _ => counters_of_step, step_withCounters⟩

end Sys2Proof.Machine
end

section
/-! PROOFS. The statements about reset and construction (70_reset_and_hazards.md) and about memory (20_memory.md). -/

namespace Sys2Proof.Machine

/-! ### Reset (R260) and construction (R261) -/

/-- Settles O1: every field is the one the reset procedure writes. -/
theorem resetWritesTheValuesOfTheSpec : Obligations.ResetWritesTheValuesOfTheSpec := fun _ _ _ =>
  ⟨rfl, rfl, rfl, rfl, rfl, rfl, rfl, rfl, rfl, rfl, rfl, rfl, rfl, rfl, rfl, rfl, rfl, rfl, rfl, rfl, rfl, rfl, rfl,
    rfl, rfl⟩

/-- Reset does not touch memory and does not suspend the core. -/
theorem wf_afterReset {p : Params} {draw : ResetDraw} {m : Memory} (hm : m.wf = true) :
    (State.afterReset p draw m).wf = true := by
  simp only [State.wf, State.afterReset, hm, Bool.not_false, Bool.true_or, Bool.and_true]

/-- Settles O3: blank memory is canonical. -/
theorem resetStateMeetsTheInvariant : Obligations.ResetStateMeetsTheInvariant :=
  wf_afterReset (m := Memory.blank) (by decide)

theorem imageWf_iff {bytes : List Byte} : imageWf bytes = true ↔ bytes.length ≤ 65536 := decide_eq_true_iff

/-- Construction completes exactly for an image that fits, and answers its reset machine. -/
theorem construct_eq_next {p : Params} {draw : ResetDraw} {bytes : List Byte} {s : State} :
    construct p draw bytes = .next s ↔
      imageWf bytes = true ∧ s = State.afterReset p draw (Memory.ofImage bytes) := by
  unfold construct
  split <;> simp [*, eq_comm]

/-- Settles O2: `Memory.read_ofImage` reads the image back, and the length test refuses the rest. -/
theorem constructMapsTheImageFromAddressZero : Obligations.ConstructMapsTheImageFromAddressZero := by
  refine fun p draw bytes => ⟨fun hlen => ?_, fun hlen => ?_⟩
  · exact ⟨_, construct_eq_next.2 ⟨imageWf_iff.2 hlen, rfl⟩, rfl, rfl, Memory.read_ofImage bytes⟩
  · exact if_neg fun hwf => (imageWf_iff.1 hwf).not_gt hlen

/-- Settles O4: a constructed machine is the reset machine of a canonical memory. -/
theorem constructedStateMeetsTheInvariant : Obligations.ConstructedStateMeetsTheInvariant := by
  intro p draw bytes s h
  obtain ⟨hwf, rfl⟩ := construct_eq_next.1 h
  exact wf_afterReset (Memory.wf_ofImage hwf)

/-! ### Read after write (R57) -/

/-- Storing the byte that is there already gives the same memory. -/
theorem Memory.set_of_read {m : Memory} {x : Nat} {v : Byte} (hm : m.wf = true) (h : m.read x = some v) :
    m.set x v = m := by
  obtain ⟨-, hv⟩ : x < m.size ∧ cellsGet m.cells x = v := by simpa [Memory.read] using h
  obtain ⟨-, hcells⟩ := (Memory.wf_iff m).1 hm
  rw [Memory.set, ← hv, cellsSet_same hcells]

/-- Settles O50: `Memory.read_write`, `Memory.wf_write` and `Memory.set_of_read` of the write that succeeds. -/
theorem readGivesTheByteLastStored : Obligations.ReadGivesTheByteLastStored := by
  intro m addr v hm haddr
  have hwrite : m.write addr v = some (m.set addr v) := Memory.write_eq_some.2 ⟨haddr, rfl⟩
  have hread := Memory.read_write hm hwrite
  exact ⟨_, hwrite, Memory.wf_write hm hwrite, rfl, by rw [hread, if_pos rfl], fun x hx => by rw [hread, if_neg hx],
    Memory.set_of_read hm⟩

end Sys2Proof.Machine
end

section
/-! PROOFS. The statements about the encoding (30_encoding.md): encode and decode undo each other, and the display
decoder tells the executor's lengths. -/

namespace Sys2Proof.Machine

/-! ### The instruction of a row, and the row of an instruction, in each of the four formats (R70) -/

section
variable {op : Byte}

theorem encode_of_row_op {i : Instr} (h : row op = .op i) : encode i = [op] ∧ i.wf = true := by
  simpa [h] using row_spec op

theorem encode_of_row_opN {mk : Byte → Instr} (h : row op = .opN mk) (n : Byte) :
    encode (mk n) = [op, n] ∧ (mk n).wf = true := by
  have hspec : ∀ n, encode (mk n) = [op, n] ∧ (mk n).wf = true := by simpa [h] using row_spec op
  exact hspec n

theorem encode_of_row_opD {mk : Int → Instr} (h : row op = .opD mk) (d : Int) :
    encode (mk d) = [op, byteOfDisp d] ∧ (mk d).wf = dispInRange d := by
  have hspec : ∀ d, encode (mk d) = [op, byteOfDisp d] ∧ (mk d).wf = dispInRange d := by
    simpa [h] using row_spec op
  exact hspec d

theorem encode_of_row_opNn {mk : Word → Instr} (h : row op = .opNn mk) (nn : Word) :
    encode (mk nn) = [op, loByte nn, hiByte nn] ∧ (mk nn).wf = true := by
  have hspec : ∀ nn, encode (mk nn) = [op, loByte nn, hiByte nn] ∧ (mk nn).wf = true := by
    simpa [h] using row_spec op
  exact hspec nn

end

/-- The opcode an instruction is encoded with selects that instruction (R72-R75): the converse of `row_spec`. -/
theorem row_of_encode (i : Instr) :
    (∃ op, encode i = [op] ∧ row op = .op i) ∨
    (∃ op mk n, i = mk n ∧ encode i = [op, n] ∧ row op = .opN mk) ∨
    (∃ op mk d, i = mk d ∧ encode i = [op, byteOfDisp d] ∧ row op = .opD mk) ∨
    (∃ op mk nn, i = mk nn ∧ encode i = [op, loByte nn, hiByte nn] ∧ row op = .opNn mk) := by
  cases i with
  | ldBN n | ldCN n | ldDN n | ldEN n | ldHN n | ldLN n | ldAN n | ldMemHlN n =>
    exact .inr (.inl ⟨_, _, n, rfl, rfl, rfl⟩)
  | djnz d | jr d | jrNz d | jrZ d | jrNc d | jrC d => exact .inr (.inr (.inl ⟨_, _, d, rfl, rfl, rfl⟩))
  | ldBcNn nn | ldDeNn nn | ldHlNn nn | ldSpNn nn | ldMemNnHl nn | ldHlMemNn nn | ldMemNnA nn | ldAMemNn nn =>
    exact .inr (.inr (.inr ⟨_, _, nn, rfl, rfl, rfl⟩))
  | _ => exact .inl ⟨_, rfl, rfl⟩

/-! ### The two round trips -/

/-- Settles O6: the opcode selects the format the instruction was encoded in, and each operand survives its bytes. -/
theorem decodeGivesBackEveryEncodedInstruction : Obligations.DecodeGivesBackEveryEncodedInstruction := by
  intro i rest hwf
  obtain ⟨op, henc, hrow⟩ | ⟨op, mk, n, rfl, henc, hrow⟩ | ⟨op, mk, d, rfl, henc, hrow⟩ |
    ⟨op, mk, nn, rfl, henc, hrow⟩ := row_of_encode i <;> rw [henc]
  · exact decode_op hrow
  · exact decode_opN hrow n
  · have hd : dispInRange d = true := (encode_of_row_opD hrow d).2.symm.trans hwf
    exact (decode_opD hrow (byteOfDisp d)).trans (by rw [dispOfByte_byteOfDisp hd]; rfl)
  · exact (decode_opNn hrow (loByte nn) (hiByte nn)).trans (by rw [cat_hiByte_loByte]; rfl)

/-- Everything that decodes: an opcode with the operand bytes of its format behind it. -/
theorem decode_eq_ok {bytes rest : List Byte} {i : Instr} (h : decode bytes = .ok (i, rest)) :
    (∃ op, row op = .op i ∧ bytes = op :: rest) ∨
    (∃ op mk n, row op = .opN mk ∧ i = mk n ∧ bytes = op :: n :: rest) ∨
    (∃ op mk d, row op = .opD mk ∧ i = mk (dispOfByte d) ∧ bytes = op :: d :: rest) ∨
    (∃ op mk lo hi, row op = .opNn mk ∧ i = mk (cat hi lo) ∧ bytes = op :: lo :: hi :: rest) := by
  unfold decode at h
  split at h
  · cases h
  · next op tail =>
    split at h <;> cases h
    next hrow => exact .inl ⟨op, hrow, rfl⟩
    next mk n hrow => exact .inr (.inl ⟨op, mk, n, hrow, rfl, rfl⟩)
    next mk d hrow => exact .inr (.inr (.inl ⟨op, mk, d, hrow, rfl, rfl⟩))
    next mk lo hi hrow => exact .inr (.inr (.inr ⟨op, mk, lo, hi, hrow, rfl, rfl⟩))

/-- Settles O7: in each of the four formats the instruction is encoded by the bytes it was decoded from. -/
theorem encodeGivesBackTheBytesDecoded : Obligations.EncodeGivesBackTheBytesDecoded := by
  intro bytes rest i h
  obtain ⟨op, hrow, rfl⟩ | ⟨op, mk, n, hrow, rfl, rfl⟩ | ⟨op, mk, d, hrow, rfl, rfl⟩ |
    ⟨op, mk, lo, hi, hrow, rfl, rfl⟩ := decode_eq_ok h
  · obtain ⟨henc, hwf⟩ := encode_of_row_op hrow
    exact ⟨hwf, by rw [henc]; rfl⟩
  · obtain ⟨henc, hwf⟩ := encode_of_row_opN hrow n
    exact ⟨hwf, by rw [henc]; rfl⟩
  · obtain ⟨henc, hwf⟩ := encode_of_row_opD hrow (dispOfByte d)
    exact ⟨hwf.trans (dispInRange_dispOfByte d), by rw [henc, byteOfDisp_dispOfByte]; rfl⟩
  · obtain ⟨henc, hwf⟩ := encode_of_row_opNn hrow (cat hi lo)
    exact ⟨hwf, by rw [henc, loByte_cat, hiByte_cat]; rfl⟩

/-- Settles O9: each word is computed through the selection of R72-R75. -/
theorem wordsOfTheRulesDecode : Obligations.WordsOfTheRulesDecode :=
  ⟨rfl, rfl, rfl, rfl, rfl, rfl, rfl, rfl, rfl, rfl, rfl, rfl, rfl⟩

/-! ### The display decoder's lengths (R79, R222) -/

/-- The template table of R221 against the selection of R72-R74, opcode by opcode. -/
theorem displayLength_eq : ∀ op : Byte, op.toNat < 0xC0 → displayLength op = 1 + operandCount op := by decide

/-- Settles O57: the two tables agree on each of the 192 opcodes. -/
theorem displayLengthIsTheExecutorsLength : Obligations.DisplayLengthIsTheExecutorsLength := displayLength_eq

end Sys2Proof.Machine
end

section
/-! PROOFS. The statements about the execution cycle (41_execution_cycle.md): which instruction a step runs, the fetches
outside the extent, the halted core as the host runs it, and the instructions without an executed group. -/

namespace Sys2Proof.Machine

/-! ### The instruction at PC (R54, R131) -/

theorem bytesFrom_length {s : State} {addr : Word} {n : Nat} {bytes : List Byte}
    (h : s.bytesFrom addr n = some bytes) : bytes.length = n := by
  induction bytes generalizing addr n with
  | nil => exact (bytesFrom_nil h).symm
  | cons v rest ih =>
    obtain ⟨m, rfl, -, hrest⟩ := bytesFrom_cons h
    rw [List.length_cons, ih hrest]

/-- The converse of `bytesFrom_cons`. -/
theorem bytesFrom_succ {s : State} {addr : Word} {n : Nat} {v : Byte} {rest : List Byte}
    (hv : s.byteAt addr.toNat = some v) (hrest : s.bytesFrom (addr + 1) n = some rest) :
    s.bytesFrom addr (n + 1) = some (v :: rest) := by
  simp only [State.bytesFrom, hv, hrest]

section
variable {s : State} {v lo hi : Byte}

/-- The byte operand behind an opcode (R132). -/
theorem fetch8_operand (hv : s.byteAt (s.pc + 1).toNat = some v) :
    fetch8 (s.setPc (s.pc + 1)) = .next (v, s.setPc (s.pc + 2)) := by
  have hfetch : fetch8 (s.setPc (s.pc + 1)) = .next (v, s.setPc (s.pc + 1 + 1)) := fetch8_of_some hv
  rwa [BitVec.add_assoc] at hfetch

/-- The word operand behind an opcode (R133). -/
theorem fetch16_operand (hlo : s.byteAt (s.pc + 1).toNat = some lo) (hhi : s.byteAt (s.pc + 2).toNat = some hi) :
    fetch16 (s.setPc (s.pc + 1)) = .next (cat hi lo, s.setPc (s.pc + 3)) := by
  have hfetch : fetch8 (s.setPc (s.pc + 2)) = .next (hi, s.setPc (s.pc + 2 + 1)) := fetch8_of_some hhi
  rw [fetch16, fetch8_operand hlo, andThen_next, hfetch, andThen_next, BitVec.add_assoc]
  rfl

end

/-- The fetch reads the instruction that the bytes at PC decode to, and moves PC past its bytes and no more: in each of
the four formats (R70). -/
theorem fetchInstr_of_decode {s : State} {n : Nat} {bytes rest : List Byte} {i : Instr}
    (hbytes : s.bytesFrom s.pc n = some bytes) (hdecode : decode bytes = .ok (i, rest)) :
    fetchInstr s = .next (i, s.setPc (s.pc + BitVec.ofNat 16 (encode i).length)) := by
  obtain ⟨op, hrow, rfl⟩ | ⟨op, mk, v, hrow, rfl, rfl⟩ | ⟨op, mk, d, hrow, rfl, rfl⟩ |
    ⟨op, mk, lo, hi, hrow, rfl, rfl⟩ := decode_eq_ok hdecode <;>
    obtain ⟨_, -, hop, htail⟩ := bytesFrom_cons hbytes
  · rw [fetchInstr_of_row_op hop hrow, (encode_of_row_op hrow).1]
    rfl
  · obtain ⟨_, -, hv, -⟩ := bytesFrom_cons htail
    simp only [fetchInstr, fetch8_of_some hop, andThen_next, hrow, fetch8_operand hv, encode_of_row_opN hrow]
    rfl
  · obtain ⟨_, -, hd, -⟩ := bytesFrom_cons htail
    simp only [fetchInstr, fetch8_of_some hop, andThen_next, hrow, fetch8_operand hd, encode_of_row_opD hrow]
    rfl
  · obtain ⟨_, -, hlo, htail⟩ := bytesFrom_cons htail
    obtain ⟨_, -, hhi, -⟩ := bytesFrom_cons htail
    rw [BitVec.add_assoc] at hhi
    simp only [fetchInstr, fetch8_of_some hop, andThen_next, hrow, fetch16_operand hlo hhi, encode_of_row_opNn hrow]
    rfl

theorem step_of_decode {s : State} {n : Nat} {bytes rest : List Byte} {i : Instr} (hrun : s.halted = false)
    (hbytes : s.bytesFrom s.pc n = some bytes) (hdecode : decode bytes = .ok (i, rest)) :
    step s = exec i (s.setPc (s.pc + BitVec.ofNat 16 (encode i).length)) := by
  rw [step_of_running hrun, fetchInstr_of_decode hbytes hdecode, andThen_next]

/-- Settles O10: with no byte left over, the `n` bytes are the instruction's encoding (O7). -/
theorem stepRunsTheDecodedInstruction : Obligations.StepRunsTheDecodedInstruction := by
  intro s i n bytes hrun hbytes hdecode
  obtain ⟨-, henc⟩ := encodeGivesBackTheBytesDecoded bytes [] i hdecode
  rw [List.append_nil] at henc
  rw [step_of_decode hrun hbytes hdecode, ← henc, bytesFrom_length hbytes]
  rfl

/-- The three bytes of a placed word stand at PC (log 12, 13). -/
theorem bytesFrom_withFetchWord {s : State} (nbits w : Nat) (hm : s.mem.wf = true) :
    (s.withFetchWord nbits w).bytesFrom s.pc 3 = some (tableBytes nbits w) := by
  obtain ⟨h0, h1, h2⟩ := placeBytes_read hm s.pc _ _ _
  exact bytesFrom_succ h0 (bytesFrom_succ h1 (bytesFrom_succ h2 rfl))

theorem decode_of_decodeTableWord {nbits w : Nat} {i : Instr} (h : decodeTableWord nbits w = some i) :
    ∃ rest, decode (tableBytes nbits w) = .ok (i, rest) := by
  unfold decodeTableWord at h
  split at h <;> cases h
  exact ⟨_, ‹_›⟩

/-- Settles O51: the placed bytes stand at PC, and those after the instruction are not fetched. -/
theorem placedWordIsTheNextInstruction : Obligations.PlacedWordIsTheNextInstruction := by
  intro s nbits w i hm hword
  obtain ⟨rest, hdecode⟩ := decode_of_decodeTableWord hword
  exact step_of_decode rfl (bytesFrom_withFetchWord nbits w hm) hdecode

/-! ### Fetches outside the extent (R132, R244) -/

section
variable {s : State} {op v : Byte}

/-- With no byte behind it, an opcode that takes an operand faults there. -/
theorem step_of_operand_outside (hrun : s.halted = false) (hop : s.byteAt s.pc.toNat = some op)
    (hcount : 1 ≤ operandCount op) (h : s.byteAt (s.pc + 1).toNat = none) :
    step s = .fault (.memFault (s.pc + 1) .fetch) := by
  have hfault : fetch8 (s.setPc (s.pc + 1)) = .fault (.memFault (s.pc + 1) .fetch) := fetch8_of_none h
  simp only [step_of_running hrun, fetchInstr, fetch8_of_some hop, andThen_next]
  cases hrow : row op with
  | op i => simp [operandCount, hrow, Row.operandCount] at hcount
  | opN mk | opD mk => simp only [hfault, andThen_fault]
  | opNn mk => simp only [fetch16, hfault, andThen_fault]

/-- With one byte behind it, an opcode that takes a word faults at the address of the high byte. -/
theorem step_of_high_operand_outside (hrun : s.halted = false) (hop : s.byteAt s.pc.toNat = some op)
    (hcount : operandCount op = 2) (hv : s.byteAt (s.pc + 1).toNat = some v)
    (h : s.byteAt (s.pc + 2).toNat = none) : step s = .fault (.memFault (s.pc + 2) .fetch) := by
  have hfault : fetch8 (s.setPc (s.pc + 2)) = .fault (.memFault (s.pc + 2) .fetch) := fetch8_of_none h
  simp only [step_of_running hrun, fetchInstr, fetch8_of_some hop, andThen_next]
  cases hrow : row op with
  | op i | opN mk | opD mk => simp [operandCount, hrow, Row.operandCount] at hcount
  | opNn mk => simp only [fetch16, fetch8_operand hv, andThen_next, hfault, andThen_fault]

end

/-- Settles O12: the three fetches in the order of their addresses. -/
theorem fetchOutsideTheExtentFaults : Obligations.FetchOutsideTheExtentFaults := fun _ hrun =>
  ⟨step_of_opcode_outside hrun, fun _ => step_of_operand_outside hrun, fun _ _ => step_of_high_operand_outside hrun⟩

/-! ### The halted core as the host runs it (log 1) -/

/-- A step that answers its own state can be taken any number of times. -/
theorem run_of_step_eq_self {M : Host.Core} {s : M.State} (h : M.step s = .next s) (n : Nat) :
    M.run n s = .next s := by
  induction n with
  | zero => rfl
  | succ n ih => simp only [Host.Core.run, h, ih]

/-- Settles O11: a halted core's step answers its own state. -/
theorem haltedCoreStaysHalted : Obligations.HaltedCoreStaysHalted := fun _ h =>
  ⟨report_of_halted h, observed_of_halted h, run_of_step_eq_self (M := core) (step_of_halted h)⟩

/-! ### The instructions without an executed group (R139, R140) -/

/-- Settles O14: each runs `unimplemented` for its own opcode. -/
theorem unimplementedInstructionsCompleteInSkipMode : Obligations.UnimplementedInstructionsCompleteInSkipMode :=
  fun _ op s h => ⟨encode_of_form h, opcode_of_unimpl h,
    fun hmode => (exec_of_form h s).trans (unimplemented_of_skip op hmode),
    fun hmode => (exec_of_form h s).trans (unimplemented_of_refuse op hmode)⟩

end Sys2Proof.Machine
end

section
/-! PROOFS. Two statements about the addition: where its carry in goes (R104, R186), and that DAA after it adds decimal
numbers (R116, R204). -/

namespace Sys2Proof.Machine

/-! ### A carry added to the operand first (R186) -/

section
variable {a v : Byte}

/-- H of an addition is the carry out of its low nibbles (R104). -/
theorem add8_h (c : Bool) : (add8 a v c).flags.h = decide (a.toNat % 16 + v.toNat % 16 + c.toNat > 15) := rfl

/-- The sum mod 256 does not tell where the carry was added. -/
theorem add8_value_preAdded (c : Bool) : (add8 a v c).value = (add8 a (v + BitVec.ofNat 8 c.toNat) false).value := by
  refine BitVec.eq_of_toNat_eq ?_
  rw [add8_value_toNat, add8_value_toNat, BitVec.toNat_add, BitVec.toNat_ofNat, Bool.toNat_false]
  omega

/-- `add8` depends on its operand and carry in through three sums only: with the operand, with its low nibble, and with
its signed value. -/
theorem add8_congr {w : Byte} {c d : Bool} (hfull : v.toNat + c.toNat = w.toNat + d.toNat)
    (hlow : v.toNat % 16 + c.toNat = w.toNat % 16 + d.toNat) (hsigned : v.toInt + c.toNat = w.toInt + d.toNat) :
    add8 a v c = add8 a w d := by
  simp only [add8, Nat.add_assoc, Int.add_assoc, hfull, hlow, hsigned]

/-- Below low nibble 15 the operand takes the carry without wrapping, in none of the three sums. -/
theorem add8_preAdded_of_low_ne (hv : v.toNat % 16 ≠ 15) : add8 a v true = add8 a (v + 1) false := by
  have hnat : (v + 1).toNat = v.toNat + 1 := by rw [byte_add_one_toNat]; omega
  have hint : (v + 1).toInt = v.toInt + 1 := by
    rw [BitVec.toInt_eq_toNat_cond, BitVec.toInt_eq_toNat_cond, hnat]
    split <;> split <;> omega
  refine add8_congr ?_ ?_ ?_
  · rw [hnat]; rfl
  · rw [hnat, Bool.toNat_true, Bool.toNat_false]; omega
  · rw [hint]; simp

/-- At low nibble 15 the carry always leaves the low nibble, but of the operand, where H does not see it. -/
theorem add8_h_preAdded_of_low_eq (hv : v.toNat % 16 = 15) :
    (add8 a v true).flags.h = true ∧ (add8 a (v + 1) false).flags.h = false := by
  rw [add8_h, add8_h, byte_add_one_toNat, decide_eq_true_iff, decide_eq_false_iff_not, Bool.toNat_true,
    Bool.toNat_false]
  omega

theorem add8_flags_preAdded_ne_iff : (add8 a v true).flags ≠ (add8 a (v + 1) false).flags ↔ v.toNat % 16 = 15 := by
  refine ⟨fun hne => ?_, fun hv heq => ?_⟩
  · by_contra hv
    exact hne (by rw [add8_preAdded_of_low_ne hv])
  · obtain ⟨hwhole, hpre⟩ := add8_h_preAdded_of_low_eq (a := a) hv
    rw [heq, hpre] at hwhole
    cases hwhole

end

/-- Settles O55: without a carry nothing is pre-added, and with one H tells low nibble 15 from the others. -/
theorem preAddedCarryDiffersExactlyAtLowNibbleFifteen : Obligations.PreAddedCarryDiffersExactlyAtLowNibbleFifteen := by
  refine fun a v c => ⟨add8_value_preAdded c, ?_⟩
  cases c with
  | false => simp
  | true => exact add8_flags_preAdded_ne_iff.trans (by simp)

/-! ### DAA after an addition of decimal digits

The sum of two decimal bytes is `16 * q + p`, by the sum `p` of their low digits and the sum `q` of their high ones. -/

theorem bcd_toNat (n : Nat) : (bcd n).toNat = 16 * (n / 10 % 10) + n % 10 := by
  rw [bcd, BitVec.toNat_ofNat]
  omega

theorem bcd_toNat_of_digits {h l : Nat} (hl : l ≤ 9) : (bcd ((10 * h + l) % 100)).toNat = 16 * (h % 10) + l := by
  have hhigh : (10 * h + l) % 100 / 10 % 10 = h % 10 := by omega
  have hlow : (10 * h + l) % 100 % 10 = l := by omega
  rw [bcd_toNat, hhigh, hlow]

section
variable {p q : Nat} {a : Byte} {fl : Flags}

/-- DAA's test of the low digit, with H of the addition, is whether the low digits reach 10. -/
theorem daa_low_iff_of_digits (hp : p ≤ 18) (ha : a.toNat = (16 * q + p) % 256) (hh : fl.h = decide (p > 15)) :
    (fl.h = true ∨ a.toNat % 16 > 9) ↔ p > 9 := by
  rw [hh, ha, decide_eq_true_iff]
  omega

/-- DAA's test of the high digit, with C of the addition, is whether the decimal sum reaches 100. -/
theorem daa_high_iff_of_digits (hp : p ≤ 18) (hq : q ≤ 18) (ha : a.toNat = (16 * q + p) % 256)
    (hc : fl.c = decide (16 * q + p > 255)) : (fl.c = true ∨ a.toNat > 0x99) ↔ 10 * q + p ≥ 100 := by
  rw [hc, ha, decide_eq_true_iff]
  omega

/-- DAA makes the decimal byte of the sum: the low correction carries 1 into the high digit, the high one wraps it. -/
theorem daa_value_of_digits (hp : p ≤ 18) (hq : q ≤ 18) (ha : a.toNat = (16 * q + p) % 256) (hn : fl.n = false)
    (hh : fl.h = decide (p > 15)) (hc : fl.c = decide (16 * q + p > 255)) :
    (daa a fl).value = bcd ((10 * q + p) % 100) := by
  refine BitVec.eq_of_toNat_eq ?_
  rw [daa_value, hn, if_neg Bool.false_ne_true, BitVec.toNat_ofNat, ha]
  simp only [daaCorrection, daa_low_iff_of_digits hp ha hh, daa_high_iff_of_digits hp hq ha hc]
  rcases Nat.lt_or_ge 9 p with hlow | hlow
  · have hcarry : 10 * q + p = 10 * (q + 1) + (p - 10) := by omega
    rw [if_pos hlow, hcarry, bcd_toNat_of_digits (by omega)]
    split <;> omega
  · rw [if_neg hlow.not_gt, bcd_toNat_of_digits hlow]
    split <;> omega

/-- C is bit 0 of the flags byte (R24). -/
theorem toByte_getLsbD_zero (x : Flags) : x.toByte.getLsbD 0 = x.c := by simp

/-- DAA leaves C set exactly when the decimal sum reaches 100. -/
theorem daa_c_of_digits (hp : p ≤ 18) (hq : q ≤ 18) (ha : a.toNat = (16 * q + p) % 256)
    (hc : fl.c = decide (16 * q + p > 255)) : (daa a fl).flags.c = decide (10 * q + p ≥ 100) := by
  have hflag : (daa a fl).flags.c = (fl.c || decide (a.toNat > 0x99)) := rfl
  rw [hflag, Bool.eq_iff_iff, Bool.or_eq_true_iff, decide_eq_true_iff, decide_eq_true_iff]
  exact daa_high_iff_of_digits hp hq ha hc

end

/-- Settles O56: ADD A,B leaves A, H and C as `daa_value_of_digits` and `daa_c_of_digits` ask for. -/
theorem addThenDaaAddsDecimal : Obligations.AddThenDaaAddsDecimal := by
  intro s x y hx hy hsa hsb
  obtain ⟨t, hadd, hta, -, -, -, -, hth, -, -, htn, htc⟩ :=
    exec_alu_sum (i := .addAB) (o := .reg .b) (s := s) (cin := false) rfl rfl rfl
  obtain ⟨u, hdaa, -, hua, huf⟩ := exec_acc (i := .daa) (s := t) rfl
  have ha : s.a.toNat = 16 * (x / 10) + x % 10 := by rw [hsa, bcd_toNat]; omega
  have hb : (s.reg8 .b).toNat = 16 * (y / 10) + y % 10 := by rw [State.reg8, hsb, bcd_toNat]; omega
  have hsum : s.a.toNat + (s.reg8 .b).toNat + false.toNat = 16 * (x / 10 + y / 10) + (x % 10 + y % 10) := by
    rw [ha, hb, Bool.toNat_false]; omega
  have hlow : s.a.toNat % 16 + (s.reg8 .b).toNat % 16 + false.toNat = x % 10 + y % 10 := by
    rw [ha, hb, Bool.toNat_false]; omega
  have hdecimal : x + y = 10 * (x / 10 + y / 10) + (x % 10 + y % 10) := by omega
  rw [hsum] at hta htc
  rw [hlow] at hth
  refine ⟨t, u, hadd, hdaa, ?_, ?_⟩
  · rw [hua, hdecimal]
    exact daa_value_of_digits (by omega) (by omega) hta htn hth htc
  · rw [huf, hdecimal, toByte_getLsbD_zero]
    exact daa_c_of_digits (by omega) (by omega) hta htc

end Sys2Proof.Machine
end

section
/-! PROOFS. The statements about every instruction at once: where its accesses end it (60_exceptions.md), which bytes
it stores to (20_memory.md), which special registers it writes (10_state.md), and so the invariant of every step. -/

namespace Sys2Proof.Machine

/-! ### Operations with more than one completed end -/

/-- DJNZ completes, with either branch outcome (R212). -/
theorem decrementJump_completes (op : Byte) (d : Int) (s : State) :
    ∃ taken pc, decrementJump op d s = .next (epilogue op taken ((s.setReg8 .b (s.b - 1)).setPc pc)) := by
  rcases eq_or_ne s.b 1 with hb | hb
  · exact ⟨false, s.pc, decrementJump_not_taken op d hb⟩
  · exact ⟨true, _, decrementJump_taken op d hb⟩

/-- JR cc completes, with either branch outcome (R214). -/
theorem jumpConditional_completes (op : Byte) (cc : Cond) (d : Int) (s : State) :
    ∃ taken pc, jumpConditional op cc d s = .next (epilogue op taken (s.setPc pc)) := by
  cases hcc : s.cond cc with
  | false => exact ⟨false, s.pc, jumpConditional_not_taken op d hcc⟩
  | true => exact ⟨true, _, jumpConditional_taken op d hcc⟩

/-- HALT completes, with either value of HALT_SUSPENDS (R215). -/
theorem suspend_eq (op : Byte) (s : State) :
    suspend op s = .next (epilogue op false { s with halted := s.halted || s.params.haltSuspends }) := by
  cases hp : s.params.haltSuspends with
  | false => rw [suspend_of_not_haltSuspends op hp, Bool.or_false]
  | true => rw [suspend_of_haltSuspends op hp, Bool.or_true]

/-- An opcode 0xC0-0xFF that completes was skipped (R140). -/
theorem unimplemented_eq_next {op : Byte} {s t : State} (h : unimplemented op s = .next t) :
    t = { s with t := s.t + s.params.unimplTStates, r := s.r + 1 } := by
  cases hmode : s.params.unimplMode with
  | refuse => cases (unimplemented_of_refuse op hmode).symm.trans h
  | skip =>
    cases (unimplemented_of_skip op hmode).symm.trans h
    rfl

/-! ### The accesses that decide a result (R241, R244) -/

/-- These accesses, made in this order, decide the result: a next state when every address is below `size`, and else the
fault of the first that is not. -/
def DecidedBy (size : Nat) (x : Result State) : List (Word × AccessKind) → Prop
  | [] => ∃ t, x = .next t
  | (addr, kind) :: rest => if addr.toNat < size then DecidedBy size x rest else x = .fault (.memFault addr kind)

/-- A result that faults only at an address at or past `size`. -/
def FaultsOutside {α : Type} (size : Nat) (x : Result α) : Prop :=
  ∀ e, x = .fault e → ∃ addr kind, e = .memFault addr kind ∧ size ≤ addr.toNat

section
variable {size : Nat} {x : Result State} {addr : Word} {kind : AccessKind} {accesses : List (Word × AccessKind)}

theorem decidedBy_cons (hin : addr.toNat < size → DecidedBy size x accesses)
    (hout : size ≤ addr.toNat → x = .fault (.memFault addr kind)) : DecidedBy size x ((addr, kind) :: accesses) := by
  unfold DecidedBy
  split
  · exact hin ‹_›
  · exact hout (Nat.le_of_not_lt ‹_›)

theorem next_of_decidedBy (h : DecidedBy size x accesses) (hin : ∀ a ∈ accesses, a.1.toNat < size) :
    ∃ t, x = .next t := by
  induction accesses with
  | nil => exact h
  | cons a rest ih =>
    obtain ⟨ha, hrest⟩ := List.forall_mem_cons.1 hin
    rw [DecidedBy, if_pos ha] at h
    exact ih h hrest

theorem fault_of_decidedBy {before after : List (Word × AccessKind)}
    (h : DecidedBy size x (before ++ (addr, kind) :: after)) (hin : ∀ a ∈ before, a.1.toNat < size)
    (hout : size ≤ addr.toNat) : x = .fault (.memFault addr kind) := by
  induction before with
  | nil => rwa [List.nil_append, DecidedBy, if_neg hout.not_gt] at h
  | cons a rest ih =>
    obtain ⟨ha, hrest⟩ := List.forall_mem_cons.1 hin
    rw [List.cons_append, DecidedBy, if_pos ha] at h
    exact ih h hrest

theorem faultsOutside_of_decidedBy (h : DecidedBy size x accesses) : FaultsOutside size x := by
  rintro e rfl
  induction accesses with
  | nil => exact h.elim nofun
  | cons a rest ih =>
    unfold DecidedBy at h
    split at h
    · exact ih h
    · cases h
      exact ⟨_, _, rfl, Nat.le_of_not_lt ‹_›⟩

end

section
variable {s : State} {addr : Word} {accesses : List (Word × AccessKind)}

theorem decidedBy_memRead {k : Byte → Result State}
    (hk : addr.toNat < s.mem.size → ∀ v, DecidedBy s.mem.size (k v) accesses) :
    DecidedBy s.mem.size (andThen (memRead s addr) k) ((addr, .read) :: accesses) := by
  refine decidedBy_cons (fun hin => ?_) fun hout => by rw [memRead_outside hout, andThen_fault]
  have hread : s.mem.read addr.toNat = some (cellsGet s.mem.cells addr.toNat) := if_pos hin
  rw [memRead_of_some hread, andThen_next]
  exact hk hin _

theorem decidedBy_memWrite {v : Byte} {k : State → Result State}
    (hk : addr.toNat < s.mem.size → ∀ m, m.size = s.mem.size → DecidedBy s.mem.size (k (s.setMem m)) accesses) :
    DecidedBy s.mem.size (andThen (memWrite s addr v) k) ((addr, .write) :: accesses) := by
  refine decidedBy_cons (fun hin => ?_) fun hout => by rw [memWrite_outside v hout, andThen_fault]
  rw [memWrite_inside v hin, andThen_next]
  exact hk hin _ rfl

/-- Where a byte was read, writing it back cannot fault: the read alone decides. -/
theorem decidedBy_memRead_memWrite (g : Byte → Byte) (k : Byte → State → State) :
    DecidedBy s.mem.size
      (andThen (memRead s addr) fun v => andThen (memWrite s addr (g v)) fun u => .next (k v u)) [(addr, .read)] := by
  refine decidedBy_memRead fun hin v => ?_
  rw [memWrite_inside _ hin]
  exact ⟨_, rfl⟩

end

theorem decidedBy_storeHl (op : Byte) (nn : Word) (s : State) :
    DecidedBy s.mem.size (storeHl op nn s) [(nn, .write), (nn + 1, .write)] := by
  rw [storeHl, write16, andThen_assoc]
  refine decidedBy_memWrite fun _ m hm => ?_
  rw [← hm]
  exact decidedBy_memWrite (s := s.setMem m) fun _ _ _ => ⟨_, rfl⟩

theorem decidedBy_loadHl (op : Byte) (nn : Word) (s : State) :
    DecidedBy s.mem.size (loadHl op nn s) [(nn, .read), (nn + 1, .read)] := by
  simp only [loadHl, read16, andThen_assoc]
  exact decidedBy_memRead fun _ _ => decidedBy_memRead fun _ _ => ⟨_, rfl⟩

/-- The data accesses of a form decide it; an opcode 0xC0-0xFF, which has none, only in SKIP mode. -/
theorem decidedBy_runForm (op : Byte) {f : Form} {s : State}
    (hskip : ∀ op', f = .unimpl op' → s.params.unimplMode = .skip) :
    DecidedBy s.mem.size (runForm op f s) (dataAccesses f s) := by
  cases f with
  | nop | exAf | jr d | ldPairNn p nn | addHl p | incPair p | decPair p | halt => exact ⟨_, rfl⟩
  | acc a => exact ⟨_, runForm_acc op a s⟩
  | djnz d =>
    obtain ⟨taken, pc, hnext⟩ := decrementJump_completes op d s
    exact ⟨_, hnext⟩
  | jrCc cc d =>
    obtain ⟨taken, pc, hnext⟩ := jumpConditional_completes op cc d s
    exact ⟨_, hnext⟩
  | ldMemBcA | ldMemDeA | ldMemNnA nn => exact decidedBy_memWrite fun _ _ _ => ⟨_, rfl⟩
  | ldAMemBc | ldAMemDe | ldAMemNn nn => exact decidedBy_memRead fun _ _ => ⟨_, rfl⟩
  | ldMemNnHl nn => exact decidedBy_storeHl op nn s
  | ldHlMemNn nn => exact decidedBy_loadHl op nn s
  | inc o | dec o =>
    cases o with
    | reg r => exact ⟨_, rfl⟩
    | memHl => exact decidedBy_memRead_memWrite _ _
  | ldN dst n =>
    cases dst with
    | reg r => exact ⟨_, rfl⟩
    | memHl => exact decidedBy_memWrite fun _ _ _ => ⟨_, rfl⟩
  | ld8 dst src =>
    match dst, src with
    | .reg _, .reg _ => exact ⟨_, rfl⟩
    | .reg _, .memHl => exact decidedBy_memRead fun _ _ => ⟨_, rfl⟩
    | .memHl, .reg _ => exact decidedBy_memWrite fun _ _ _ => ⟨_, rfl⟩
    | .memHl, .memHl => exact decidedBy_memRead_memWrite _ _
  | alu g o | cp o =>
    cases o with
    | reg r => exact ⟨_, rfl⟩
    | memHl => exact decidedBy_memRead fun _ _ => ⟨_, rfl⟩
  | unimpl op' => exact ⟨_, unimplemented_of_skip op' (hskip op' rfl)⟩

theorem decidedBy_exec {i : Instr} {s : State} (hskip : ∀ op, formOf i = .unimpl op → s.params.unimplMode = .skip) :
    DecidedBy s.mem.size (exec i s) (dataAccesses (formOf i) s) := by
  rw [exec_eq_runForm]
  exact decidedBy_runForm _ hskip

/-- Settles O48: the accesses decide the result, whether all are within the extent or one is the first outside. -/
theorem instructionsCompleteWhereTheirAccessesExist : Obligations.InstructionsCompleteWhereTheirAccessesExist := by
  intro i s hskip
  have hdecided := decidedBy_exec hskip
  refine ⟨next_of_decidedBy hdecided, fun before addr kind after haccesses => ?_⟩
  rw [haccesses] at hdecided
  exact fault_of_decidedBy hdecided

/-! ### Faults (R241) -/

theorem faultsOutside_next {α : Type} (size : Nat) (v : α) : FaultsOutside size (.next v) := nofun

theorem faultsOutside_andThen {α β : Type} {size : Nat} {x : Result α} {k : α → Result β} (hx : FaultsOutside size x)
    (hk : ∀ v, x = .next v → FaultsOutside size (k v)) : FaultsOutside size (andThen x k) := by
  intro e he
  obtain hfault | ⟨v, hv, hfault⟩ := andThen_eq_fault.1 he
  · exact hx e hfault
  · exact hk v hv e hfault

theorem fetch8_mem {s t : State} {v : Byte} (h : fetch8 s = .next (v, t)) : t.mem = s.mem := by
  obtain ⟨-, rfl⟩ := fetch8_eq_next.1 h
  rfl

theorem fetchInstr_mem {s t : State} {i : Instr} (h : fetchInstr s = .next (i, t)) : t.mem = s.mem := by
  rw [fetchInstr_eq_next h, setPc_mem]

theorem fetch8_faultsOutside (s : State) : FaultsOutside s.mem.size (fetch8 s) := by
  intro e he
  obtain ⟨hout, rfl⟩ := fetch8_eq_fault.1 he
  exact ⟨_, _, rfl, hout⟩

theorem fetch16_faultsOutside (s : State) : FaultsOutside s.mem.size (fetch16 s) := by
  refine faultsOutside_andThen (fetch8_faultsOutside s) fun ⟨lo, s1⟩ h => ?_
  rw [← fetch8_mem h]
  exact faultsOutside_andThen (fetch8_faultsOutside s1) fun _ _ => faultsOutside_next _ _

theorem fetchInstr_faultsOutside (s : State) : FaultsOutside s.mem.size (fetchInstr s) := by
  refine faultsOutside_andThen (fetch8_faultsOutside s) fun ⟨op, s1⟩ h => ?_
  rw [← fetch8_mem h]
  cases row op with
  | op i => exact faultsOutside_next _ _
  | opN mk | opD mk => exact faultsOutside_andThen (fetch8_faultsOutside s1) fun _ _ => faultsOutside_next _ _
  | opNn mk => exact faultsOutside_andThen (fetch16_faultsOutside s1) fun _ _ => faultsOutside_next _ _

/-- An instruction that faults was not refused, so its data accesses decided it. -/
theorem exec_faultsOutside (i : Instr) (s : State) : FaultsOutside s.mem.size (exec i s) := by
  intro e he
  refine faultsOutside_of_decidedBy (decidedBy_exec fun op hform => ?_) e he
  cases hmode : s.params.unimplMode with
  | skip => rfl
  | refuse => cases he.symm.trans ((exec_of_form hform s).trans (unimplemented_of_refuse op hmode))

theorem step_faultsOutside (s : State) : FaultsOutside s.mem.size (step s) := by
  cases hrun : s.halted with
  | true =>
    rw [step_of_halted hrun]
    exact faultsOutside_next _ _
  | false =>
    rw [step_of_running hrun]
    refine faultsOutside_andThen (fetchInstr_faultsOutside s) fun ⟨i, u⟩ h => ?_
    rw [← fetchInstr_mem h]
    exact exec_faultsOutside i u

/-- Settles O43: the fetch and the data accesses fault only outside the extent, and every address is below 65536. -/
theorem faultsAreAccessesOutsideTheExtent : Obligations.FaultsAreAccessesOutsideTheExtent := by
  intro s e h
  obtain ⟨addr, kind, he, hout⟩ := step_faultsOutside s e h
  exact ⟨⟨addr, kind, he, hout⟩, hout.trans_lt addr.isLt, by rw [observed, h]⟩

/-! ### The special registers (R36, R41) -/

/-- Writing an 8-bit operand touches none of them. -/
theorem writeOperand_keeps {o : Operand8} {v : Byte} {s t : State} (h : writeOperand o v s = .next t) :
    t.pc = s.pc ∧ t.sp = s.sp ∧ t.f = s.f ∧ t.a' = s.a' ∧ t.f' = s.f' ∧ t.halted = s.halted ∧ t.params = s.params := by
  obtain ⟨r, -, rfl⟩ | ⟨-, h⟩ := writeOperand_eq_next h
  · simp
  · obtain ⟨m, -, rfl⟩ := memWrite_eq_next.1 h
    simp

/-- The column "written by" of R41 for PC, SP, F, A' and F', with R36 for the halted state, read for one form. -/
def WrittenAsTheTableSays (f : Form) (s t : State) : Prop :=
  (t.pc ≠ s.pc → (∃ d, f = .djnz d) ∨ (∃ d, f = .jr d) ∨ ∃ cc d, f = .jrCc cc d) ∧
  (t.sp ≠ s.sp → (∃ nn, f = .ldPairNn .sp nn) ∨ f = .incPair .sp ∨ f = .decPair .sp) ∧
  (t.f ≠ s.f → f = .exAf ∨ (∃ p, f = .addHl p) ∨ (∃ o, f = .inc o) ∨ (∃ o, f = .dec o) ∨ (∃ a, f = .acc a) ∨
    (∃ g o, f = .alu g o) ∨ ∃ o, f = .cp o) ∧
  (t.a' ≠ s.a' ∨ t.f' ≠ s.f' → f = .exAf) ∧
  (t.halted ≠ s.halted → f = .halt) ∧
  t.params = s.params

/-- In each form the state it answers shows the registers it writes, and the others are kept. -/
theorem runForm_writtenAsTheTableSays {op : Byte} {f : Form} {s t : State} (h : runForm op f s = .next t) :
    WrittenAsTheTableSays f s t := by
  unfold WrittenAsTheTableSays
  cases f with
  | nop | exAf | jr d | addHl p =>
    cases h
    simp
  | acc a =>
    cases (runForm_acc op a s).symm.trans h
    simp
  | ldPairNn p nn | incPair p | decPair p =>
    cases h
    cases p <;> simp
  | djnz d =>
    obtain ⟨taken, pc, hnext⟩ := decrementJump_completes op d s
    cases hnext.symm.trans h
    simp
  | jrCc cc d =>
    obtain ⟨taken, pc, hnext⟩ := jumpConditional_completes op cc d s
    cases hnext.symm.trans h
    simp
  | halt =>
    cases (suspend_eq op s).symm.trans h
    simp
  | unimpl op' =>
    obtain rfl := unimplemented_eq_next h
    simp
  | ldAMemBc | ldAMemDe | ldAMemNn nn | ldHlMemNn nn | alu g o | cp o =>
    obtain ⟨v, -, h⟩ := andThen_eq_next.1 h
    cases h
    simp
  | ldMemBcA | ldMemDeA | ldMemNnA nn =>
    obtain ⟨u, hwrite, h⟩ := andThen_eq_next.1 h
    obtain ⟨m, -, rfl⟩ := memWrite_eq_next.1 hwrite
    cases h
    simp
  | ldMemNnHl nn =>
    obtain ⟨u, hwrite, h⟩ := andThen_eq_next.1 h
    rw [write16_eq_setMem hwrite] at h
    cases h
    simp
  | ldN dst n =>
    obtain ⟨u, hwrite, h⟩ := andThen_eq_next.1 h
    cases h
    simp [writeOperand_keeps hwrite]
  | inc o | dec o | ld8 dst src =>
    obtain ⟨v, -, h⟩ := andThen_eq_next.1 h
    obtain ⟨u, hwrite, h⟩ := andThen_eq_next.1 h
    cases h
    simp [writeOperand_keeps hwrite]

/-- Settles O49: form by form. -/
theorem specialRegistersAreWrittenOnlyByTheirInstructions :
    Obligations.SpecialRegistersAreWrittenOnlyByTheirInstructions := by
  intro i s t h
  rw [exec_eq_runForm] at h
  exact runForm_writtenAsTheTableSays h

/-! ### The bytes an instruction stores to (R56) -/

/-- Memory in `t` is canonical, has the extent it has in `s`, and reads otherwise than in `s` at most at these
addresses. -/
structure StoresOnly (addrs : List Nat) (s t : State) : Prop where
  wf : t.mem.wf = true
  size_eq : t.mem.size = s.mem.size
  byteAt_eq : ∀ x ∉ addrs, t.byteAt x = s.byteAt x

section
variable {s t u : State} {addr : Word} {v : Byte} {addrs : List Nat}

theorem storesOnly_of_mem_eq (hm : s.mem.wf = true) (h : t.mem = s.mem) : StoresOnly addrs s t :=
  ⟨by rw [h, hm], by rw [h], fun x _ => by rw [State.byteAt, h]; rfl⟩

theorem storesOnly_trans (h : StoresOnly addrs s u) (h' : StoresOnly addrs u t) : StoresOnly addrs s t :=
  ⟨h'.wf, h'.size_eq.trans h.size_eq, fun x hx => (h'.byteAt_eq x hx).trans (h.byteAt_eq x hx)⟩

/-- Only memory matters, not what was written to the registers after the store. -/
theorem storesOnly_congr (h : StoresOnly addrs s u) (ht : t.mem = u.mem) : StoresOnly addrs s t :=
  storesOnly_trans h (storesOnly_of_mem_eq h.wf ht)

theorem storesOnly_of_memWrite (hm : s.mem.wf = true) (haddr : addr.toNat ∈ addrs) (h : memWrite s addr v = .next u) :
    StoresOnly addrs s u := by
  refine ⟨memWrite_wf hm h, ?_, fun x hx => ?_⟩
  · obtain ⟨m, hwrite, rfl⟩ := memWrite_eq_next.1 h
    obtain ⟨-, rfl⟩ := Memory.write_eq_some.1 hwrite
    rfl
  · rw [memWrite_byteAt hm h, if_neg (ne_of_mem_of_not_mem haddr hx).symm]

theorem storesOnly_of_write16 {w : Word} (hm : s.mem.wf = true) (h : write16 s addr w = .next u) :
    StoresOnly [addr.toNat, (addr + 1).toNat] s u := by
  obtain ⟨s1, hlo, hhi⟩ := write16_eq_next.1 h
  have hlow : StoresOnly [addr.toNat, (addr + 1).toNat] s s1 := storesOnly_of_memWrite hm (by simp) hlo
  exact storesOnly_trans hlow (storesOnly_of_memWrite hlow.wf (by simp) hhi)

theorem storesOnly_of_writeOperand {o : Operand8} (hm : s.mem.wf = true) (haddr : o = .memHl → s.hl.toNat ∈ addrs)
    (h : writeOperand o v s = .next u) : StoresOnly addrs s u := by
  obtain ⟨r, -, rfl⟩ | ⟨ho, h⟩ := writeOperand_eq_next h
  · exact storesOnly_of_mem_eq hm (setReg8_mem s r v)
  · exact storesOnly_of_memWrite hm (haddr ho) h

end

/-- Each form leaves memory as it was, or stores by one byte write, word write or operand write. -/
theorem runForm_storesOnly {op : Byte} {f : Form} {s t : State} (hm : s.mem.wf = true)
    (h : runForm op f s = .next t) : StoresOnly (storedAddresses f s) s t := by
  cases f with
  | nop | exAf | jr d =>
    cases h
    exact storesOnly_of_mem_eq hm rfl
  | ldPairNn p nn | addHl p | incPair p | decPair p =>
    cases h
    exact storesOnly_of_mem_eq hm (by simp)
  | acc a =>
    cases (runForm_acc op a s).symm.trans h
    exact storesOnly_of_mem_eq hm rfl
  | djnz d =>
    obtain ⟨taken, pc, hnext⟩ := decrementJump_completes op d s
    cases hnext.symm.trans h
    exact storesOnly_of_mem_eq hm rfl
  | jrCc cc d =>
    obtain ⟨taken, pc, hnext⟩ := jumpConditional_completes op cc d s
    cases hnext.symm.trans h
    exact storesOnly_of_mem_eq hm rfl
  | halt =>
    cases (suspend_eq op s).symm.trans h
    exact storesOnly_of_mem_eq hm rfl
  | unimpl op' =>
    obtain rfl := unimplemented_eq_next h
    exact storesOnly_of_mem_eq hm rfl
  | ldAMemBc | ldAMemDe | ldAMemNn nn | ldHlMemNn nn | alu g o | cp o =>
    obtain ⟨v, -, h⟩ := andThen_eq_next.1 h
    cases h
    exact storesOnly_of_mem_eq hm rfl
  | ldMemBcA | ldMemDeA | ldMemNnA nn =>
    obtain ⟨u, hwrite, h⟩ := andThen_eq_next.1 h
    cases h
    exact storesOnly_congr (storesOnly_of_memWrite hm (by simp [storedAddresses]) hwrite) rfl
  | ldMemNnHl nn =>
    obtain ⟨u, hwrite, h⟩ := andThen_eq_next.1 h
    cases h
    exact storesOnly_congr (storesOnly_of_write16 hm hwrite) rfl
  | ldN dst n =>
    obtain ⟨u, hwrite, h⟩ := andThen_eq_next.1 h
    cases h
    exact storesOnly_congr (storesOnly_of_writeOperand hm (by rintro rfl; simp [storedAddresses]) hwrite) rfl
  | inc o | dec o | ld8 dst src =>
    obtain ⟨v, -, h⟩ := andThen_eq_next.1 h
    obtain ⟨u, hwrite, h⟩ := andThen_eq_next.1 h
    cases h
    exact storesOnly_congr (storesOnly_of_writeOperand hm (by rintro rfl; simp [storedAddresses]) hwrite) rfl

theorem exec_storesOnly {i : Instr} {s t : State} (hm : s.mem.wf = true) (h : exec i s = .next t) :
    StoresOnly (storedAddresses (formOf i) s) s t := by
  rw [exec_eq_runForm] at h
  exact runForm_storesOnly hm h

/-- Settles O47: form by form, `exec_storesOnly`. -/
theorem instructionsStoreOnlyWhereTheirRuleSays : Obligations.InstructionsStoreOnlyWhereTheirRuleSays := by
  intro i s t hm h
  have hstores := exec_storesOnly hm h
  exact ⟨hstores.size_eq, hstores.byteAt_eq⟩

/-! ### The invariant -/

theorem State.wf_iff (s : State) :
    s.wf = true ↔ s.mem.wf = true ∧ (s.halted = true → s.params.haltSuspends = true) := by
  unfold State.wf
  cases s.halted <;> simp

/-- HALT alone suspends the core (O49), and only where HALT_SUSPENDS (R36, R215). -/
theorem haltSuspends_of_exec {i : Instr} {s t : State} (hs : s.halted = true → s.params.haltSuspends = true)
    (h : exec i s = .next t) (ht : t.halted = true) : s.params.haltSuspends = true := by
  obtain ⟨-, -, -, -, hhalt, -⟩ := specialRegistersAreWrittenOnlyByTheirInstructions i s t h
  by_cases hsame : t.halted = s.halted
  · exact hs (hsame ▸ ht)
  · have hrun : suspend _ s = .next t := (exec_of_form (hhalt hsame) s).symm.trans h
    cases (suspend_eq _ s).symm.trans hrun
    obtain hhalted | hp := Bool.or_eq_true_iff.1 ht
    · exact hs hhalted
    · exact hp

theorem wf_of_exec {i : Instr} {s t : State} (hs : s.wf = true) (h : exec i s = .next t) : t.wf = true := by
  obtain ⟨hm, hhalted⟩ := (State.wf_iff s).1 hs
  obtain ⟨-, -, -, -, -, hparams⟩ := specialRegistersAreWrittenOnlyByTheirInstructions i s t h
  exact (State.wf_iff t).2 ⟨(exec_storesOnly hm h).wf, hparams ▸ haltSuspends_of_exec hhalted h⟩

/-- Settles O5: a halted core's step answers its own state, the fetch moves PC alone, and `wf_of_exec` is the rest. -/
theorem everyStepKeepsTheInvariant : Obligations.EveryStepKeepsTheInvariant := by
  intro s t hs h
  cases hrun : s.halted with
  | true =>
    cases (step_of_halted hrun).symm.trans h
    exact hs
  | false =>
    obtain ⟨⟨i, u⟩, hfetch, hexec⟩ := andThen_eq_next.1 ((step_of_running hrun).symm.trans h)
    have hu : u.wf = true := by
      rw [fetchInstr_eq_next hfetch]
      exact hs
    exact wf_of_exec hu hexec

end Sys2Proof.Machine
end
